-- ==== Sys2Proof/Word.lean ====
section
/-!
DEFINITION. The word types of the HCX core: the widths of its registers (10_state.md R20, D37) and of the two words
its decoders read (30_encoding.md R80).
-/
namespace Sys2Proof

/-- A byte of the text sink (45_text_sink.md R200). -/
abbrev Byte := BitVec 8

/-- One element of the DisplayBuffer: a decimal digit value (10_state.md R27). -/
abbrev Digit := BitVec 4

/-- A segment pattern, bit 0 = segment a ... bit 6 = segment g (30_encoding.md R89). -/
abbrev SegPattern := BitVec 7

/-- A segment table: one pattern for each decimal digit, the value of the parameter `SEG_TABLE` (00_scope.md R7,
20_memory.md R62, 30_encoding.md R89). -/
abbrev SegTable := Vector SegPattern 10

/-- A digit selector, bit `p` = scan position `p` (30_encoding.md R90). -/
abbrev Selector := BitVec 6

/-- The dispatcher word, Format D: `DS, BIF, AIF, TIF` from bit 3 to bit 0 (30_encoding.md R81). -/
abbrev DWord := BitVec 4

/-- The handle word, Format H: `ST` in bit 2, `EV` in bits 1 and 0 (30_encoding.md R84). -/
abbrev HWord := BitVec 3

/-- The two-bit event code `EV` (30_encoding.md R87). -/
abbrev EvCode := BitVec 2

end Sys2Proof
end

