-- ==== Sys2Proof/Config.lean ====
section
/-!
DEFINITION. The parameters of the HCX core (00_scope.md R7, R8) at their reference values, and the two things the spec
leaves open as free constants: the clock frequency and the sink's readiness where the schedule says nothing of it.
-/
namespace Sys2Proof

/-- `ROLLOVER_MODE`: the two ways the Clock can roll over (41_clock.md R121, R122). -/
inductive RolloverMode where
  | corrected
  | sourceCompatible
  deriving DecidableEq, Repr

/-- The three interrupt sources (60_exceptions.md R220). -/
inductive Source where
  | tick
  | edgeA
  | edgeB
  deriving DecidableEq, Repr

namespace Config

/-- `N_DIGITS`: elements of the DisplayBuffer. -/
abbrev nDigits : Nat := 6

/-- `N_SLOTS`: scan positions of the cursor (D13; log entry 18). -/
abbrev nSlots : Nat := 6

/-- `TICKS_PER_SECOND`: served ticks per SECOND event. -/
abbrev ticksPerSecond : Nat := 150

/-- `DIGITS_PER_TICK`: scan positions advanced per tick. -/
abbrev digitsPerTick : Nat := 1

/-- `SEC_MAX`: largest legal value of seconds. -/
abbrev secMax : Nat := 59

/-- `MIN_MAX`: largest legal value of minutes. -/
abbrev minMax : Nat := 59

/-- `HOUR_MAX`: largest legal value of hours; 12 itself is legal (D36). -/
abbrev hourMax : Nat := 12

/-- `ROLLOVER_MODE`: the hardware's behaviour is `corrected` (41_clock.md R121, D18; log entry 17). -/
abbrev rolloverMode : RolloverMode := .corrected

/-- `PRIO`: the order of service among pending sources (60_exceptions.md R226, D9; log entry 18). -/
def prio : List Source := [.tick, .edgeA, .edgeB]

/-- `F_CLK` in Hz, which the spec leaves OPEN (D5). FREE VALUE: no body. Log entry 13. -/
opaque fClk : Nat

/-- `TICK_PERIOD = round(F_CLK / 150)` clock cycles (43_timebase.md R165), at least one cycle. Log entry 13. -/
def tickPeriod : Nat := max 1 ((fClk + 75) / 150)

/-- The sink's answer to the `n`-th question the schedule does not answer: `any value` at each moment
(45_text_sink.md R202, 93 U8). FREE VALUE: no body. Log entry 2. -/
opaque sinkReady (n : Nat) : Bool

end Config
end Sys2Proof
end

