-- ==== Sys2Proof/Syntax.lean ====
section
/-!
DEFINITION. The operations of the HCX core's two decoders, one constructor per row of spec/opcode_table.json
(30_encoding.md R82 and R85). No row has an operand in its word: the letters of a pattern are bits that take no part in
the selection, and the byte index of `TXB` is the register `TXI` (R83).
-/
namespace Sys2Proof

/-- The operations. The first five are Format D (dispatcher operations), the other seven Format H (transitions of the
chronometer machine and the reserved event code). -/
inductive Instr where
  | wait          -- `WAIT`, 60_exceptions.md R225
  | svcTick       -- `SVC.TICK`, 43_timebase.md R161
  | svcEdgeA      -- `SVC.EDGEA`, 44_edge_events.md R182
  | svcEdgeB      -- `SVC.EDGEB`, 44_edge_events.md R183
  | txb           -- `TXB`, 45_text_sink.md R203
  | hsToggle      -- `HS.TOGGLE`, 40_chronometer_fsm.md R101
  | hsLapreset    -- `HS.LAPRESET`, R102
  | hsSecond      -- `HS.SECOND`, R103
  | hrToggle      -- `HR.TOGGLE`, R104
  | hrLapreset    -- `HR.LAPRESET`, R105
  | hrSecond      -- `HR.SECOND`, R106
  | hRsvd         -- `H.RSVD`, R107
  deriving DecidableEq, Repr

end Sys2Proof
end

