-- ==== Sys2Proof/WellFormed.lean ====
section
/-!
DEFINITION. Which operations the hardware can select. The one check: the reserved event code is never formed
(30_encoding.md R86), so `H.RSVD` is not well-formed.
-/
namespace Sys2Proof

/-- An operation some rule of the hardware selects. `H.RSVD` is the only one no rule ever selects
(30_encoding.md R86). Log entry 21. -/
def Instr.wellFormed (i : Instr) : Bool :=
  match i with
  | .wait | .svcTick | .svcEdgeA | .svcEdgeB | .txb => true
  | .hsToggle | .hsLapreset | .hsSecond | .hrToggle | .hrLapreset | .hrSecond => true
  | .hRsvd => false

/-- Well-formedness as a proposition. -/
abbrev Instr.WellFormed (i : Instr) : Prop := i.wellFormed = true

end Sys2Proof
end

