-- ==== Sys2Proof/Decode.lean ====
section
/-!
DEFINITION. The two decoders (30_encoding.md R82, R85) as one table of mask and match, total on every number and
rejecting by name, and after it the encoder. The codes are the spec's own (D26).
-/
namespace Sys2Proof

/-- The two kinds of word (30_encoding.md R80). -/
inductive Format where
  | d
  | h
  deriving DecidableEq, Repr

/-- Why a number is no word of a format. -/
inductive DecodeError where
  | wordTooWide   -- the number does not fit the format's width
  | noRow         -- no row of the table matches; this never happens
  deriving DecidableEq, Repr

/-- The width of a format in bits (30_encoding.md R93). -/
def Format.width : Format → Nat
  | .d => 4
  | .h => 3

/-- A row of the opcode table: `w` selects `op` when `w` masked with `mask` is `pattern`. -/
structure OpRow where
  format : Format
  mask : Nat
  pattern : Nat
  op : Instr
  deriving DecidableEq, Repr

/-- The rows of Format D (30_encoding.md R82). -/
def formatDRows : List OpRow :=
  [ ⟨.d, 0xF, 0x0, .wait⟩, ⟨.d, 0x9, 0x1, .svcTick⟩, ⟨.d, 0xB, 0x2, .svcEdgeA⟩, ⟨.d, 0xF, 0x4, .svcEdgeB⟩,
    ⟨.d, 0x8, 0x8, .txb⟩ ]

/-- The rows of Format H (30_encoding.md R85). -/
def formatHRows : List OpRow :=
  [ ⟨.h, 0x7, 0x0, .hsToggle⟩, ⟨.h, 0x7, 0x1, .hsLapreset⟩, ⟨.h, 0x7, 0x2, .hsSecond⟩, ⟨.h, 0x7, 0x4, .hrToggle⟩,
    ⟨.h, 0x7, 0x5, .hrLapreset⟩, ⟨.h, 0x7, 0x6, .hrSecond⟩, ⟨.h, 0x3, 0x3, .hRsvd⟩ ]

/-- The rows of a format. -/
def Format.rows : Format → List OpRow
  | .d => formatDRows
  | .h => formatHRows

/-- A row matches a word. -/
def OpRow.hits (r : OpRow) (w : Nat) : Bool := w &&& r.mask == r.pattern

/-- Decode the word `w` of format `f` (30_encoding.md R82, R85). -/
def decodeWord (f : Format) (w : Nat) : Except DecodeError Instr :=
  if w < 2 ^ f.width then
    match f.rows.find? (fun r => r.hits w) with
    | some r => .ok r.op
    | none => .error .noRow
  else .error .wordTooWide

/-- Decode a dispatcher word. -/
def decodeD (w : DWord) : Except DecodeError Instr := decodeWord .d w.toNat

/-- Decode a handle word. -/
def decodeH (w : HWord) : Except DecodeError Instr := decodeWord .h w.toNat

/-- The row of the table that belongs to an operation (30_encoding.md R82, R85). -/
def Instr.row : Instr → OpRow
  | .wait => ⟨.d, 0xF, 0x0, .wait⟩
  | .svcTick => ⟨.d, 0x9, 0x1, .svcTick⟩
  | .svcEdgeA => ⟨.d, 0xB, 0x2, .svcEdgeA⟩
  | .svcEdgeB => ⟨.d, 0xF, 0x4, .svcEdgeB⟩
  | .txb => ⟨.d, 0x8, 0x8, .txb⟩
  | .hsToggle => ⟨.h, 0x7, 0x0, .hsToggle⟩
  | .hsLapreset => ⟨.h, 0x7, 0x1, .hsLapreset⟩
  | .hsSecond => ⟨.h, 0x7, 0x2, .hsSecond⟩
  | .hrToggle => ⟨.h, 0x7, 0x4, .hrToggle⟩
  | .hrLapreset => ⟨.h, 0x7, 0x5, .hrLapreset⟩
  | .hrSecond => ⟨.h, 0x7, 0x6, .hrSecond⟩
  | .hRsvd => ⟨.h, 0x3, 0x3, .hRsvd⟩

/-- Encode an operation: its format and its word with every letter of the pattern `letters` (the bits outside the
mask, which take no part in the selection) chosen freely. -/
def encode (i : Instr) (letters : Nat) : Format × Nat :=
  let r := i.row
  (r.format, r.pattern ||| (letters &&& (2 ^ r.format.width - 1 - r.mask)))

/-- The operation the decoder reads from a word of the opcode table `nbits` wide. A 3-bit word is Format H; a 4-bit word
is Format D, and so is a word given in whole bytes, because the dispatcher word is the one the machine decodes at each
DISP step; the words of both formats collide there. Log entry 6. -/
def decodeTableWord (nbits w : Nat) : Option Instr :=
  match decodeWord (if nbits = 3 then .h else .d) w with
  | .ok i => some i
  | .error _ => none

end Sys2Proof
end

