-- ==== Sys2Proof/Machine/State.lean ====
section
/-!
DEFINITION. The state of the HCX core: the tuple of 10_state.md R20, the ghost logs of R37, the implementation state of
the clocked realisation (R38), and the model's own fields (the schedule, the sink's readiness, the counter of free
values). Plain data only.
-/
namespace Sys2Proof.Machine

/-- `ST`, the state of the chronometer machine (10_state.md R30). -/
inductive ChronoState where
  | stopped
  | running
  deriving DecidableEq, Repr

/-- `DS`, the state of the dispatcher (10_state.md R34). -/
inductive DispState where
  | idle
  | emit
  deriving DecidableEq, Repr

/-- The three event kinds of the chronometer machine (40_chronometer_fsm.md R100). The reserved code cannot be written
down (30_encoding.md R86). -/
inductive Event where
  | toggle
  | lapReset
  | second
  deriving DecidableEq, Repr

/-- The two contexts of 60_exceptions.md R237. -/
inductive Context where
  | foreground
  | handler
  deriving DecidableEq, Repr

/-- `DB[0..5]`, the DisplayBuffer, most significant digit first (10_state.md R27, 20_memory.md R64). -/
structure Digits where
  h10 : Digit
  h1 : Digit
  m10 : Digit
  m1 : Digit
  s10 : Digit
  s1 : Digit
  deriving DecidableEq, Repr

/-- The Clock's three counters `HH`, `MM`, `SS` (10_state.md R31, R32, R33). -/
structure Clock where
  hh : BitVec 4
  mm : BitVec 6
  ss : BitVec 6
  deriving DecidableEq, Repr

/-- Implementation state of the clocked realisation (10_state.md R38): the timer's cycle counter `TCNT`
(43_timebase.md R165) and the two synchroniser stages of each line (44_edge_events.md R188). No event-level rule reads
it. Log entry 12. -/
structure Impl where
  tcnt : Nat
  a1 : Bool
  a2 : Bool
  b1 : Bool
  b2 : Bool
  deriving DecidableEq, Repr

/-- One entry of the schedule: which agent moves next, and what the environment offers (00_scope.md R9). Log entry 1. -/
inductive Input where
  | ovf                              -- ENV: the timer overflows, R160
  | sampleA (v : Bool)               -- ENV: a sample of line A, true = high, R180
  | sampleB (v : Bool)               -- ENV: a sample of line B, R180
  | rst                              -- ENV: reset, R260
  | disp (ready : Bool)              -- DISP takes its step; `ready` is `tx_ready` at that moment, R224, R202
  | fg                               -- FG: `IDLE.FG`, R238
  | handle (ev : EvCode)             -- a direct call `HANDLE(ev)` by its event code, R97; log entry 5
  | clk (lineA lineB ready : Bool)   -- one cycle of the clocked realisation, R280; log entry 12
  deriving DecidableEq, Repr

/-- The state. -/
structure State where
  /-- `TIF`, R21. -/
  tIF : Bool
  /-- `AIF`, R22. -/
  aIF : Bool
  /-- `BIF`, R23. -/
  bIF : Bool
  /-- `LA`, R24. -/
  la : Bool
  /-- `LB`, R24. -/
  lb : Bool
  /-- `DIV`, R25. -/
  div : BitVec 8
  /-- `CUR`, R26. -/
  cur : BitVec 3
  /-- `DB[0..5]`, R27. -/
  db : Digits
  /-- `SEG`, R28. -/
  seg : SegPattern
  /-- `SEL`, R29. -/
  sel : Selector
  /-- `ST`, R30. -/
  st : ChronoState
  /-- `HH`, `MM`, `SS`, R31 to R33. -/
  clock : Clock
  /-- `DS`, R34. -/
  ds : DispState
  /-- `TXI`, R35. -/
  txi : BitVec 4
  /-- `TXLOG`, ghost, oldest byte first, R37. -/
  txlog : List Byte
  /-- Ghost list of the (`SEG`, `SEL`) pairs written by `REFRESH`, oldest first, R37. Log entries 10
  and 19. -/
  dispLog : List (SegPattern × Selector)
  /-- Implementation state, R38. Log entry 12. -/
  impl : Impl
  /-- The schedule: the steps to come, next one first. The model's own field. Log entry 1. -/
  inputs : List Input
  /-- The level of `tx_ready` at this moment, R200. The model's own field. Log entry 2. -/
  txReady : Bool
  /-- How many sink answers have been drawn from the free value. The model's own field. Log entry 2. -/
  draws : Nat
  deriving DecidableEq, Repr

/-- Why the machine stops with a fault. Each marks a state or an input the rules prove unreachable
(93_implementation_defined.md U10 to U16); none is a trap of the hardware (60_exceptions.md R240). All are safe: the
model stops where the hardware never is. -/
inductive Fault where
  /-- `EV = 0b11` (U10, R107). Raised by the meaning of `H.RSVD`. Safe. -/
  | reservedEventCode
  /-- `CUR` is no scan position (U11, R66). Raised by `REFRESH`. Safe. -/
  | cursorOutOfRange
  /-- A buffer element is above 9 (U12, R66). Raised by `REFRESH` and `TXB`. Safe. -/
  | digitOutOfRange
  /-- `TXI` above 12 met by `TXB`, or not 0 met by `LAPSTART` (U13, R83, R201). Safe. -/
  | byteIndexOutOfRange
  /-- `DIV` at or above the threshold (U14). Raised by `DIVSTEP`. Safe. -/
  | dividerOutOfRange
  /-- A Clock counter beyond the mode's range (U15). Raised by `ADVANCE`. Safe. -/
  | clockOutOfRange
  /-- `HANDLE` called while `DS = EMIT` (U16, R100). Raised by `HANDLE`. Safe. -/
  | handleWhileEmitting
  deriving DecidableEq, Repr

/-- Why the model gives no meaning. -/
inductive Refusal where
  /-- An operation that has no meaning yet. Raised by no arm. Safe. -/
  | notModelled (mnemonic : String)
  /-- The word formed by `step` is no word of its format. Raised by `step`; it never happens, since every dispatcher
  word and every handle word decodes (30_encoding.md R82, R85). Safe. -/
  | undecodable (e : DecodeError)
  deriving DecidableEq, Repr

/-- The machine right after reset (10_state.md R40, 70_reset_and_hazards.md R260, R261): every register zero. The ghost
logs are empty at reset of the model (R37). The last three fields are the model's own (log entries 1 and 2, DESIGN
CHOICE). -/
def State.reset : State where
  tIF := false
  aIF := false
  bIF := false
  la := false
  lb := false
  div := 0
  cur := 0
  db := ⟨0, 0, 0, 0, 0, 0⟩
  seg := 0
  sel := 0
  st := .stopped
  clock := ⟨0, 0, 0⟩
  ds := .idle
  txi := 0
  txlog := []
  dispLog := []
  impl := ⟨0, false, false, false, false⟩
  inputs := []
  txReady := false
  draws := 0

end Sys2Proof.Machine
end

