-- ==== Sys2Proof/Machine/Ops.lean ====
section
/-!
DEFINITION. The named operations over the state: every register is written through one of them. Among them, taking an
interrupt (60_exceptions.md R228), the return from it (R230), and reset (70_reset_and_hazards.md R260).
-/
namespace Sys2Proof.Machine

/-- Is the source pending? (30_encoding.md R87) -/
def State.pending (s : State) : Source → Bool
  | .tick => s.tIF
  | .edgeA => s.aIF
  | .edgeB => s.bIF

/-- Taking an interrupt: the flag of the served source is cleared, and no other (60_exceptions.md R222). Nothing is
saved, there is no mask to change and no vector to read; control goes to the hardwired handler (R228). -/
def State.takeInterrupt (src : Source) (s : State) : State :=
  match src with
  | .tick => { s with tIF := false }
  | .edgeA => { s with aIF := false }
  | .edgeB => { s with bIF := false }

/-- Return from a handler: being in IDLE is what allows the next service; nothing is restored (60_exceptions.md R230). -/
def State.handlerReturn (s : State) : State := { s with ds := .idle, txi := 0 }

/-- The handler of a lap event stays entered: `DS <- EMIT`, `TXI <- 0` (45_text_sink.md R201). -/
def State.enterEmit (s : State) : State := { s with ds := .emit, txi := 0 }

/-- `emit(b)`: the sink receives the byte (00_scope.md section 6, 45_text_sink.md R203). -/
def State.sendByte (b : Byte) (s : State) : State := { s with txlog := s.txlog ++ [b] }

/-- `TXI <- TXI + 1`. -/
def State.nextByte (s : State) : State := { s with txi := s.txi + 1 }

/-- `SEG`, `SEL` and `CUR` change together (42_display_mux.md R140); the pair is recorded in the ghost log (R37). -/
def State.showDigit (seg : SegPattern) (sel : Selector) (cur : BitVec 3) (s : State) : State :=
  { s with seg := seg, sel := sel, cur := cur, dispLog := s.dispLog ++ [(seg, sel)] }

/-- `DIV <- n`. -/
def State.setDiv (n : BitVec 8) (s : State) : State := { s with div := n }

/-- `ST <- st`. -/
def State.setSt (st : ChronoState) (s : State) : State := { s with st := st }

/-- The three counters of the Clock. -/
def State.setClock (c : Clock) (s : State) : State := { s with clock := c }

/-- The six-element write of the DisplayBuffer; there is no single-element write (20_memory.md R61). -/
def State.setDb (d : Digits) (s : State) : State := { s with db := d }

/-- Reset: every register takes its reset value, the ghost logs stay (70_reset_and_hazards.md R260, 10_state.md R37),
and so do the model's own fields, which are no registers (log entry 10). -/
def State.resetRegs (s : State) : State :=
  { State.reset with
    txlog := s.txlog, dispLog := s.dispLog, inputs := s.inputs, txReady := s.txReady, draws := s.draws }

/-- The schedule that is left. -/
def State.setInputs (l : List Input) (s : State) : State := { s with inputs := l }

/-- The sink's answer at this moment (45_text_sink.md R202). -/
def State.setReady (r : Bool) (s : State) : State := { s with txReady := r }

/-- The sink's answer where the schedule gives none: a free value (93 U8). Log entry 2. -/
def State.drawReady (s : State) : State :=
  { s with txReady := Config.sinkReady s.draws, draws := s.draws + 1 }

/-- The implementation state of the clocked realisation. -/
def State.setImpl (m : Impl) (s : State) : State := { s with impl := m }

/-- The outcome of a meaning: a next state, or the fault that marks an unreachable state. -/
def finish (r : Except Fault State) : Host.Outcome State Fault Refusal :=
  match r with
  | .ok s => .next s
  | .error e => .fault e

end Sys2Proof.Machine
end

