-- ==== Sys2Proof/Machine/Flags.lean ====
section
/-!
DEFINITION. The set side of the three pending flags, which is all the flag computation there is (10_state.md section 2:
no condition codes): the timer overflow (43_timebase.md R160) and the falling-edge samplers (44_edge_events.md R180).
-/
namespace Sys2Proof.Machine

/-- A falling edge: the stored level is high and the sample is low (10_state.md R24). -/
def fallingEdge (stored v : Bool) : Bool := stored && !v

/-- `OVF` (43_timebase.md R160). -/
def ovf (s : State) : State := { s with tIF := true }

/-- `SAMPLE.A(v)` (44_edge_events.md R180): the flag is set on a falling edge and never cleared here. -/
def sampleA (v : Bool) (s : State) : State := { s with aIF := s.aIF || fallingEdge s.la v, la := v }

/-- `SAMPLE.B(v)` (44_edge_events.md R180). -/
def sampleB (v : Bool) (s : State) : State := { s with bIF := s.bIF || fallingEdge s.lb v, lb := v }

end Sys2Proof.Machine
end

