-- ==== Sys2Proof/Machine/Clocked.lean ====
section
/-!
DEFINITION. What a clock edge of the clocked realisation does besides the dispatcher's step (70_reset_and_hazards.md
R280): the timer counts (43_timebase.md R165) and each line is sampled once, through two synchroniser stages
(44_edge_events.md R188). Timing that no event-level rule depends on.
-/
namespace Sys2Proof.Machine

/-- Is this cycle an overflow of the timer? (R165) -/
def overflowDue (m : Impl) : Bool := m.tcnt + 1 == Config.tickPeriod

/-- `TCNT` and the synchroniser stages after one cycle, the lines being at levels `lineA` and `lineB` (R165, R188). -/
def Impl.tick (lineA lineB : Bool) (m : Impl) : Impl :=
  { tcnt := if overflowDue m then 0 else m.tcnt + 1, a1 := lineA, a2 := m.a1, b1 := lineB, b2 := m.b1 }

/-- The environment's steps of one cycle: `OVF` if due, then a sample of each line, whose value is the output of the
line's last synchroniser stage before the edge (R188, R280; log entry 14). -/
def cycleInputs (m : Impl) : List Input :=
  (if overflowDue m then [.ovf] else []) ++ [.sampleA m.a2, .sampleB m.b2]

/-- The environment's part of a cycle, ordered after the dispatcher's step of the same cycle (R280). -/
def clockEdge (lineA lineB : Bool) (s : State) : State :=
  let s1 := if overflowDue s.impl then ovf s else s
  (sampleB s.impl.b2 (sampleA s.impl.a2 s1)).setImpl (s.impl.tick lineA lineB)

end Sys2Proof.Machine
end

