-- ==== Sys2Proof/Machine/Operands.lean ====
section
/-!
DEFINITION. Operand assembly (30_encoding.md R88): the codes of R87, the two decoded words (R81, R84), the three indexed
spaces (20_memory.md R60), the selector (R90), the digits of the Clock (41_clock.md R124) and the outputs (R200, R243).
-/
namespace Sys2Proof.Machine

/-- The code of `ST` (30_encoding.md R87). -/
def ChronoState.code : ChronoState → BitVec 1
  | .stopped => 0
  | .running => 1

/-- The code of `DS` (30_encoding.md R87). -/
def DispState.code : DispState → BitVec 1
  | .idle => 0
  | .emit => 1

/-- The code of an event (30_encoding.md R87). -/
def Event.code : Event → EvCode
  | .toggle => 0b00
  | .lapReset => 0b01
  | .second => 0b10

/-- The event a source's edge delivers (30_encoding.md R88 (a)); the timer's divider delivers SECOND. -/
def eventOf : Source → Event
  | .tick => .second
  | .edgeA => .toggle
  | .edgeB => .lapReset

/-- The dispatcher word of a state (30_encoding.md R81). -/
def dword (s : State) : DWord :=
  s.ds.code ++ BitVec.ofBool s.bIF ++ BitVec.ofBool s.aIF ++ BitVec.ofBool s.tIF

/-- The handle word (30_encoding.md R84). -/
def hword (st : ChronoState) (ev : EvCode) : HWord := st.code ++ ev

/-- `DB[i]` (20_memory.md R61); there is no element above index 5. -/
def Digits.get? (d : Digits) (i : Nat) : Option Digit :=
  match i with
  | 0 => some d.h10
  | 1 => some d.h1
  | 2 => some d.m10
  | 3 => some d.m1
  | 4 => some d.s10
  | 5 => some d.s1
  | _ => none

/-- `SEG_BLANK` (30_encoding.md R89). -/
def segBlank : SegPattern := 0b0000000

/-- `SEG_TABLE[d]` for a table `tbl` (20_memory.md R62, 30_encoding.md R88 (c)). There is no pattern for a value
above 9. -/
def segLookup (tbl : SegTable) (d : Digit) : Option SegPattern := tbl[d.toNat]?

/-- The reference value of the parameter `SEG_TABLE` (30_encoding.md R89; the spec's general knowledge G1; log
entry 15). -/
def segReference : SegTable :=
  #v[0b0111111, 0b0000110, 0b1011011, 0b1001111, 0b1100110, 0b1101101, 0b1111101, 0b0000111, 0b1111111, 0b1101111]

/-- `SEG_TABLE[d]` at the reference table, the one the machine is built with. -/
def segTable (d : Digit) : Option SegPattern := segLookup segReference d

/-- The selector of scan position `p`: `1 << p` (30_encoding.md R90). -/
def selectorOf (p : Nat) : Selector := 1#6 <<< p

/-- The character of a digit: `0x30 + d` (30_encoding.md R92; ASCII is G2, log entry 16). -/
def charOf (d : Digit) : Byte := 0x30 + d.setWidth 8

/-- The `k`-th byte of the lap line, from the current buffer (20_memory.md R63). An index above 12 and a buffer element
above 9 are met in no reachable state and fault (R66). -/
def lapByte (db : Digits) (k : Nat) : Except Fault Byte :=
  if k = 0 then .ok 0x4C
  else if k = 1 then .ok 0x61
  else if k = 2 then .ok 0x70
  else if k = 3 then .ok 0x73
  else if k = 4 then .ok 0x20
  else if k = 11 then .ok 0x0D
  else if k = 12 then .ok 0x0A
  else
    match db.get? (k - 5) with
    | some d => if d.toNat < 10 then .ok (charOf d) else .error .digitOutOfRange
    | none => .error .byteIndexOutOfRange

/-- `x div 10` as a digit (41_clock.md R126). -/
def tens (x : Nat) : Digit := BitVec.ofNat 4 (x / 10)

/-- `x mod 10` as a digit (41_clock.md R126). -/
def ones (x : Nat) : Digit := BitVec.ofNat 4 (x % 10)

/-- `FORMAT_OF`: the six digits of a Clock value (41_clock.md R124, 10_state.md R42). -/
def formatOf (c : Clock) : Digits :=
  { h10 := tens c.hh.toNat, h1 := ones c.hh.toNat,
    m10 := tens c.mm.toNat, m1 := ones c.mm.toNat,
    s10 := tens c.ss.toNat, s1 := ones c.ss.toNat }

/-- The output `tx_valid` (45_text_sink.md R200). -/
def txValid (s : State) : Bool := s.ds == .emit

/-- The output `tx_data` (45_text_sink.md R200): the offered byte, `0x00` while none is offered. -/
def txData (s : State) : Except Fault Byte :=
  match s.ds with
  | .idle => .ok 0x00
  | .emit => lapByte s.db s.txi.toNat

/-- The context between DISP steps (60_exceptions.md R237). -/
def context (s : State) : Context :=
  match s.ds with
  | .idle => .foreground
  | .emit => .handler

end Sys2Proof.Machine
end

