-- ==== Sys2Proof/Machine/Dispatcher.lean ====
section
/-!
DEFINITION. The dispatcher's own part (60_exceptions.md): `WAIT`, the foreground step, and the selection of R224 with
the service order as an argument (R226, `PRIO`).
-/
namespace Sys2Proof.Machine

/-- The meaning of `WAIT` (R225): nothing is pending, nothing changes. -/
def execWait (s : State) : Host.Outcome State Fault Refusal := .next s

/-- `IDLE.FG` (R238): the foreground loop computes nothing, also in EMIT, where R238 does not enable it (log entry 9). -/
def idleFg (s : State) : State := s

/-- The service operation of a source (R220). -/
def serviceOf : Source → Instr
  | .tick => .svcTick
  | .edgeA => .svcEdgeA
  | .edgeB => .svcEdgeB

/-- The first pending source of an order (R226). -/
def firstPending (order : List Source) (s : State) : Option Source := order.find? s.pending

/-- The operation DISP performs, with the service order as an argument (R224; 92 D9). -/
def selectByPrio (order : List Source) (s : State) : Instr :=
  match s.ds with
  | .emit => .txb
  | .idle =>
    match firstPending order s with
    | some src => serviceOf src
    | none => .wait

end Sys2Proof.Machine
end

