-- ==== Sys2Proof/Machine/Clock.lean ====
section
/-!
DEFINITION. The Clock: `ADVANCE` in both rollover modes, `CLKRESET` and `FORMAT` (41_clock.md).
-/
namespace Sys2Proof.Machine

/-- The largest value a seconds counter holds between steps (10_state.md R31). -/
def secTop : RolloverMode → Nat
  | .corrected => Config.secMax
  | .sourceCompatible => Config.secMax + 1

/-- The largest value a minutes counter holds between steps (10_state.md R32). -/
def minTop : RolloverMode → Nat
  | .corrected => Config.minMax
  | .sourceCompatible => Config.minMax + 1

/-- The largest value an hours counter holds between steps (10_state.md R33). -/
def hourTop : RolloverMode → Nat
  | .corrected => Config.hourMax
  | .sourceCompatible => Config.hourMax + 1

/-- The Clock's ranges between steps (10_state.md R41). -/
abbrev Clock.InRange (m : RolloverMode) (c : Clock) : Prop :=
  c.ss.toNat ≤ secTop m ∧ c.mm.toNat ≤ minTop m ∧ c.hh.toNat ≤ hourTop m

/-- `ADVANCE` on the counters, `corrected` mode (41_clock.md R121). -/
def advanceCorrected (c : Clock) : Clock :=
  if c.ss.toNat < Config.secMax then { c with ss := c.ss + 1 }
  else if c.mm.toNat < Config.minMax then { c with ss := 0, mm := c.mm + 1 }
  else if c.hh.toNat < Config.hourMax then { hh := c.hh + 1, mm := 0, ss := 0 }
  else { hh := 0, mm := 0, ss := 0 }

/-- `ADVANCE` on the counters, `source_compatible` mode: `counter++ > BOUND` compares the value before the increment
(41_clock.md R122). -/
def advanceSource (c : Clock) : Clock :=
  if c.ss.toNat > Config.secMax then
    if c.mm.toNat > Config.minMax then
      if c.hh.toNat > Config.hourMax then { hh := 0, mm := 0, ss := 0 }
      else { hh := c.hh + 1, mm := 0, ss := 0 }
    else { c with ss := 0, mm := c.mm + 1 }
  else { c with ss := c.ss + 1 }

/-- `ADVANCE` on the counters, by mode. -/
def advanceClock (m : RolloverMode) (c : Clock) : Clock :=
  match m with
  | .corrected => advanceCorrected c
  | .sourceCompatible => advanceSource c

/-- `FORMAT()`: the six digits of the Clock, in one step (41_clock.md R124). -/
def format (s : State) : State := s.setDb (formatOf s.clock)

/-- `ADVANCE()`, which ends with `FORMAT()` (41_clock.md R121, R122). Counters beyond the mode's range are met in no
reachable state and fault (93 U15). -/
def advance (m : RolloverMode) (s : State) : Except Fault State :=
  if s.clock.InRange m then .ok (format (s.setClock (advanceClock m s.clock))) else .error .clockOutOfRange

/-- `CLKRESET()`, which ends with `FORMAT()` (41_clock.md R123). -/
def clkReset (s : State) : State := format (s.setClock ⟨0, 0, 0⟩)

end Sys2Proof.Machine
end

