-- ==== Sys2Proof/Machine/TextSink.lean ====
section
/-!
DEFINITION. The lap line: `LAPSTART` and `TXB` (45_text_sink.md).
-/
namespace Sys2Proof.Machine

/-- `LAPSTART()` (45_text_sink.md R201). Its precondition `DS = IDLE` and `TXI = 0` holds at every call in a reachable
state; a state that breaks it faults (93 U13, U16; log entry 8). -/
def lapStart (s : State) : Except Fault State :=
  match s.ds with
  | .emit => .error .handleWhileEmitting
  | .idle => if s.txi = 0 then .ok s.enterEmit else .error .byteIndexOutOfRange

/-- The effect of one transferred byte (45_text_sink.md R203): after byte 12 the handler returns. -/
def txByte (s : State) : Except Fault State :=
  match lapByte s.db s.txi.toNat with
  | .error e => .error e
  | .ok b => .ok (if s.txi.toNat = 12 then (s.sendByte b).handlerReturn else (s.sendByte b).nextByte)

/-- `TXB` (45_text_sink.md R203): enabled only if the sink is ready. While it is not, DISP has no step and waits: the
state is unchanged, and the environment goes on (R204, R208; log entry 3). -/
def execTxb (s : State) : Host.Outcome State Fault Refusal :=
  if s.txReady then finish (txByte s) else .next s

end Sys2Proof.Machine
end

