-- ==== Sys2Proof/Machine/Chronometer.lean ====
section
/-!
DEFINITION. The chronometer state machine (40_chronometer_fsm.md): its six transitions, the reserved event code, and
`HANDLE`.
-/
namespace Sys2Proof.Machine

/-- `HS.TOGGLE` (R101): `ST <- RUNNING`. -/
def hsToggle (s : State) : Except Fault State := .ok (s.setSt .running)

/-- `HS.LAPRESET` (R102): the Clock is reset, `ST` stays STOPPED. -/
def hsLapreset (s : State) : Except Fault State := .ok (clkReset s)

/-- `HS.SECOND` (R103): an explicit no-op. -/
def hsSecond (s : State) : Except Fault State := .ok s

/-- `HR.TOGGLE` (R104): `ST <- STOPPED`. -/
def hrToggle (s : State) : Except Fault State := .ok (s.setSt .stopped)

/-- `HR.LAPRESET` (R105): the lap line starts; `ST` and the Clock stay. -/
def hrLapreset (s : State) : Except Fault State := lapStart s

/-- `HR.SECOND` (R106): the Clock advances. -/
def hrSecond (s : State) : Except Fault State := advance Config.rolloverMode s

/-- `HANDLE(ev)` (R100): `ST` is read once, and the transition runs inside the caller's step. It is called in IDLE
only; a call while a lap line is being sent faults (93 U16). -/
def handle (ev : Event) (s : State) : Except Fault State :=
  match s.ds with
  | .emit => .error .handleWhileEmitting
  | .idle =>
    match s.st, ev with
    | .stopped, .toggle => hsToggle s
    | .stopped, .lapReset => hsLapreset s
    | .stopped, .second => hsSecond s
    | .running, .toggle => hrToggle s
    | .running, .lapReset => hrLapreset s
    | .running, .second => hrSecond s

/-- The meaning of `HS.TOGGLE` (R101). -/
def execHsToggle (s : State) : Host.Outcome State Fault Refusal := finish (hsToggle s)

/-- The meaning of `HS.LAPRESET` (R102). -/
def execHsLapreset (s : State) : Host.Outcome State Fault Refusal := finish (hsLapreset s)

/-- The meaning of `HS.SECOND` (R103). -/
def execHsSecond (s : State) : Host.Outcome State Fault Refusal := finish (hsSecond s)

/-- The meaning of `HR.TOGGLE` (R104). -/
def execHrToggle (s : State) : Host.Outcome State Fault Refusal := finish (hrToggle s)

/-- The meaning of `HR.LAPRESET` (R105). -/
def execHrLapreset (s : State) : Host.Outcome State Fault Refusal := finish (hrLapreset s)

/-- The meaning of `HR.SECOND` (R106). -/
def execHrSecond (s : State) : Host.Outcome State Fault Refusal := finish (hrSecond s)

/-- The meaning of `H.RSVD` (R107): a model that decodes two event bits must fault here. -/
def execHRsvd (_s : State) : Host.Outcome State Fault Refusal := .fault .reservedEventCode

end Sys2Proof.Machine
end

