-- ==== Sys2Proof/Machine/Edges.lean ====
section
/-!
DEFINITION. The services of the two lines (44_edge_events.md): `SVC.EDGEA` and `SVC.EDGEB`.
-/
namespace Sys2Proof.Machine

/-- An edge service: acknowledge, then hand the line's event to the chronometer machine (R182, R183). -/
def edgeService (src : Source) (s : State) : Except Fault State := handle (eventOf src) (s.takeInterrupt src)

/-- The meaning of `SVC.EDGEA` (R182): line A delivers TOGGLE. -/
def execSvcEdgeA (s : State) : Host.Outcome State Fault Refusal := finish (edgeService .edgeA s)

/-- The meaning of `SVC.EDGEB` (R183): line B delivers LAP_RESET. -/
def execSvcEdgeB (s : State) : Host.Outcome State Fault Refusal := finish (edgeService .edgeB s)

end Sys2Proof.Machine
end

