-- ==== Sys2Proof/Machine/Display.lean ====
section
/-!
DEFINITION. The display multiplexer's scan logic: `REFRESH` (42_display_mux.md R140) and its variant with a blank slot
(R141), which is not the hardware's behaviour.
-/
namespace Sys2Proof.Machine

/-- The cursor after position `p` of `n` scan positions (R140). -/
def nextSlot (n p : Nat) : BitVec 3 := BitVec.ofNat 3 ((p + Config.digitsPerTick) % n)

/-- `REFRESH()` with the segment table `tbl` and `n` scan positions: R140 with the parameter `SEG_TABLE` as an argument
(30_encoding.md R89), and for `n = 7` the blank slot of R141. A cursor that is no scan position and a buffer element
above 9 are met in no reachable state and fault (93 U11, U12). -/
def refreshWith (tbl : SegTable) (n : Nat) (s : State) : Except Fault State :=
  if s.cur.toNat < n then
    match s.db.get? s.cur.toNat with
    | none => .ok (s.showDigit segBlank 0 (nextSlot n s.cur.toNat))
    | some d =>
      match segLookup tbl d with
      | none => .error .digitOutOfRange
      | some p => .ok (s.showDigit p (selectorOf s.cur.toNat) (nextSlot n s.cur.toNat))
  else .error .cursorOutOfRange

/-- `REFRESH()` (R140) at the reference parameters: the table of 30_encoding.md R89 and `N_SLOTS = 6`. -/
def refresh (s : State) : Except Fault State := refreshWith segReference Config.nSlots s

end Sys2Proof.Machine
end

