-- ==== Sys2Proof/Machine/Timebase.lean ====
section
/-!
DEFINITION. The periodic timer's service (43_timebase.md): `DIVSTEP` and `SVC.TICK`.
-/
namespace Sys2Proof.Machine

/-- `DIVSTEP()` (R162): count the tick; at the threshold start again from 0 and deliver SECOND. A stored count at or
above the threshold is met in no reachable state and faults (93 U14). -/
def divStep (s : State) : Except Fault State :=
  if s.div.toNat < Config.ticksPerSecond then
    if s.div.toNat + 1 = Config.ticksPerSecond then handle (eventOf .tick) (s.setDiv 0)
    else .ok (s.setDiv (s.div + 1))
  else .error .dividerOutOfRange

/-- The tick service after the acknowledgment: the display step first, the divider second (R161, R164). -/
def tickService (s : State) : Except Fault State :=
  match refresh s with
  | .error e => .error e
  | .ok s' => divStep s'

/-- The meaning of `SVC.TICK` (R161). -/
def execSvcTick (s : State) : Host.Outcome State Fault Refusal := finish (tickService (s.takeInterrupt .tick))

end Sys2Proof.Machine
end

