-- ==== Sys2Proof/Machine/Dispatch.lean ====
section
/-! DEFINITION. The dispatch of the operations of both decoders to their meanings. -/

namespace Sys2Proof.Machine

def exec (i : Instr) (s : State) : Host.Outcome State Fault Refusal :=
  match i with
  | .wait => Sys2Proof.Machine.execWait s
  | .svcTick => Sys2Proof.Machine.execSvcTick s
  | .svcEdgeA => Sys2Proof.Machine.execSvcEdgeA s
  | .svcEdgeB => Sys2Proof.Machine.execSvcEdgeB s
  | .txb => Sys2Proof.Machine.execTxb s
  | .hsToggle => Sys2Proof.Machine.execHsToggle s
  | .hsLapreset => Sys2Proof.Machine.execHsLapreset s
  | .hsSecond => Sys2Proof.Machine.execHsSecond s
  | .hrToggle => Sys2Proof.Machine.execHrToggle s
  | .hrLapreset => Sys2Proof.Machine.execHrLapreset s
  | .hrSecond => Sys2Proof.Machine.execHrSecond s
  | .hRsvd => Sys2Proof.Machine.execHRsvd s

end Sys2Proof.Machine
end

