-- ==== Sys2Proof/Machine/Step.lean ====
section
/-!
DEFINITION. One step of the machine: the next entry of the schedule moves (00_scope.md R9). With nothing scheduled the
dispatcher moves, and the sink's readiness is a free value (log entries 1 and 2).
-/
namespace Sys2Proof.Machine

/-- Decode a word of a format and run the operation it selects (30_encoding.md R80). The selection is here; the meanings
themselves perform their pseudocode in any state (log entry 4). -/
def runWord (f : Format) (w : Nat) (s : State) : Host.Outcome State Fault Refusal :=
  match decodeWord f w with
  | .ok i => exec i s
  | .error e => .refused (.undecodable e)

/-- `DISP_STEP` (60_exceptions.md R224): form the dispatcher word and perform the one operation it selects. -/
def dispStep (s : State) : Host.Outcome State Fault Refusal := runWord .d (dword s).toNat s

/-- A direct call `HANDLE(ev)` by its event code (30_encoding.md R97): form the handle word and run the transition it
selects; a call while a lap line is being sent faults (93 U16). -/
def handleStep (ev : EvCode) (s : State) : Host.Outcome State Fault Refusal :=
  match s.ds with
  | .emit => .fault .handleWhileEmitting
  | .idle => runWord .h (hword s.st ev).toNat s

/-- The environment's part of a clock cycle after the dispatcher's (70_reset_and_hazards.md R280). If the dispatcher's
step faults, the cycle faults (log entry 22). -/
def afterDisp (lineA lineB : Bool) (r : Host.Outcome State Fault Refusal) : Host.Outcome State Fault Refusal :=
  match r with
  | .next s => .next (clockEdge lineA lineB s)
  | .fault e => .fault e
  | .refused e => .refused e

/-- One step of the machine. -/
def step (s : State) : Host.Outcome State Fault Refusal :=
  match s.inputs with
  | [] => dispStep s.drawReady
  | .disp r :: rest => dispStep ((s.setInputs rest).setReady r)
  | .ovf :: rest => .next (ovf (s.setInputs rest))
  | .sampleA v :: rest => .next (sampleA v (s.setInputs rest))
  | .sampleB v :: rest => .next (sampleB v (s.setInputs rest))
  | .rst :: rest => .next (s.setInputs rest).resetRegs
  | .fg :: rest => .next (idleFg (s.setInputs rest))
  | .handle ev :: rest => handleStep ev (s.setInputs rest)
  | .clk a b r :: rest => afterDisp a b (dispStep ((s.setInputs rest).setReady r))

/-- `s` with the given word placed where the next step decodes it. A dispatcher word is placed in the bits it is
assembled from (`DS`, `BIF`, `AIF`, `TIF`, 30_encoding.md R81) with the byte index 0, and the dispatcher is scheduled
with the sink ready; a handle word is placed in `ST` and in a scheduled direct call (R84, R97), with the dispatcher in
IDLE, where alone `HANDLE` is called. Log entries 6 and 7. -/
def State.withFetchWord (s : State) (nbits w : Nat) : State :=
  if nbits = 3 then
    { s with
      st := if w.testBit 2 then .running else .stopped, ds := .idle, txi := 0,
      inputs := .handle (BitVec.ofNat 2 w) :: s.inputs }
  else
    { s with
      ds := if w.testBit 3 then .emit else .idle, bIF := w.testBit 2, aIF := w.testBit 1, tIF := w.testBit 0,
      txi := 0, inputs := .disp true :: s.inputs }

end Sys2Proof.Machine
end

