-- ==== Sys2Proof/Machine/Script.lean ====
section
/-!
DEFINITION. The pseudo-steps of scripts (30_encoding.md R96) as pieces of a schedule. They are shorthand, not operations
of the hardware. A dispatcher entry says nothing of which source is served: the state determines that (R95).
-/
namespace Sys2Proof.Machine

/-- `n * X` (R96). -/
def timesSteps (n : Nat) (l : List Input) : List Input := (List.replicate n l).flatten

/-- `FALL.A` (R96). -/
def fallA : List Input := [.sampleA true, .sampleA false]

/-- `FALL.B` (R96). -/
def fallB : List Input := [.sampleB true, .sampleB false]

/-- `TICK` (R96): `OVF` and the dispatcher's step; the sink's readiness plays no part in it. -/
def tickSteps (ready : Bool) : List Input := [.ovf, .disp ready]

/-- `PRESS.A` (R96). -/
def pressA (ready : Bool) : List Input := fallA ++ [.disp ready]

/-- `PRESS.B` (R96). -/
def pressB (ready : Bool) : List Input := fallB ++ [.disp ready]

/-- `SECOND` (R96) from a divider value: ticks up to the one whose `DIVSTEP` reaches the threshold. -/
def secondSteps (div : Nat) (ready : Bool) : List Input :=
  timesSteps (Config.ticksPerSecond - div) (tickSteps ready)

/-- `DRAIN` (R96) from byte index `txi`, the sink ready each time. -/
def drain (txi : Nat) : List Input := List.replicate (13 - txi) (.disp true)

/-- A state with a schedule placed before what it holds. -/
def State.withScript (l : List Input) (s : State) : State := s.setInputs (l ++ s.inputs)

/-- Run a script from a state: as many steps as the script has entries. -/
def runScript (l : List Input) (s : State) : Host.Outcome State Fault Refusal :=
  Sys2Proof.core.run l.length (s.withScript l)

end Sys2Proof.Machine
end

