-- ==== Sys2Proof/Safety.lean ====
section
/-!
DEFINITION. What claims about the HCX core speak of: the invariants of 10_state.md R41 to R43, the lap line as a list of
bytes, and the measures of the Clock.
-/
namespace Sys2Proof.Safety

open Sys2Proof.Machine

/-- Every register of 10_state.md R20 is zero (10_state.md R40). -/
abbrev RegistersZero (s : State) : Prop :=
  s.tIF = false ∧ s.aIF = false ∧ s.bIF = false ∧ s.la = false ∧ s.lb = false ∧ s.div = 0 ∧ s.cur = 0 ∧
    s.db = ⟨0, 0, 0, 0, 0, 0⟩ ∧ s.seg = 0 ∧ s.sel = 0 ∧ s.st = .stopped ∧ s.clock = ⟨0, 0, 0⟩ ∧ s.ds = .idle ∧ s.txi = 0

/-- Every element of the buffer is a decimal digit (10_state.md R41). -/
abbrev DigitsOk (d : Digits) : Prop :=
  d.h10.toNat ≤ 9 ∧ d.h1.toNat ≤ 9 ∧ d.m10.toNat ≤ 9 ∧ d.m1.toNat ≤ 9 ∧ d.s10.toNat ≤ 9 ∧ d.s1.toNat ≤ 9

/-- The range invariant (10_state.md R41), and `TCNT` below its period (43_timebase.md R165). -/
abbrev RangeInv (s : State) : Prop :=
  s.div.toNat ≤ 149 ∧ s.cur.toNat ≤ 5 ∧ DigitsOk s.db ∧ s.txi.toNat ≤ 12 ∧ (s.ds = .idle → s.txi = 0) ∧
    s.clock.InRange Config.rolloverMode ∧ s.impl.tcnt < Config.tickPeriod

/-- The buffer invariant (10_state.md R42). -/
abbrev BufferInv (s : State) : Prop := s.db = formatOf s.clock

/-- The display invariant (10_state.md R43): dark since reset, or one digit lit, the one before the cursor, with a
pattern of the table, and the last pair of the display log is what is shown. -/
def DisplayInv (s : State) : Prop :=
  (s.sel = 0 ∧ s.seg = 0 ∧ s.cur = 0) ∨
    (s.sel = selectorOf ((s.cur.toNat + 5) % 6) ∧ (∃ d, segTable d = some s.seg) ∧
      s.dispLog.getLast? = some (s.seg, s.sel))

/-- The thirteen bytes of the lap line for a buffer (30_encoding.md R91). -/
def lapLine (d : Digits) : List Byte :=
  [0x4C, 0x61, 0x70, 0x73, 0x20, charOf d.h10, charOf d.h1, charOf d.m10, charOf d.m1, charOf d.s10, charOf d.s1,
    0x0D, 0x0A]

/-- While a lap line is being sent, the sink has received its first `TXI` bytes last (45_text_sink.md R205, R206). -/
def LineInv (s : State) : Prop := s.ds = .emit → (lapLine s.db).take s.txi.toNat <:+ s.txlog

/-- The invariant of the machine. -/
def MachineInv (s : State) : Prop := RangeInv s ∧ BufferInv s ∧ DisplayInv s ∧ LineInv s

/-- The number of values the Clock takes in a mode (41_clock.md R121, R122). -/
def clockStates (m : RolloverMode) : Nat := (hourTop m + 1) * ((minTop m + 1) * (secTop m + 1))

/-- The position of a Clock value in the Clock's cycle: how many calls of `ADVANCE` lead to it from zero. -/
def clockIndex (m : RolloverMode) (c : Clock) : Nat :=
  (c.hh.toNat * (minTop m + 1) + c.mm.toNat) * (secTop m + 1) + c.ss.toNat

/-- The next state of the chronometer machine on TOGGLE (40_chronometer_fsm.md R108). -/
def toggled : ChronoState → ChronoState
  | .stopped => .running
  | .running => .stopped

/-- Did the level, starting at `l`, fall anywhere along the samples? (44_edge_events.md R180) -/
def anyFall (l : Bool) (samples : List Bool) : Bool :=
  match samples with
  | [] => false
  | v :: rest => fallingEdge l v || anyFall v rest

/-- An entry of a schedule that is a step of an agent on the running machine: no reset, no direct call, no whole clock
cycle. -/
def isPlainStep : Input → Bool
  | .ovf | .sampleA _ | .sampleB _ | .disp _ | .fg => true
  | .rst | .handle _ | .clk _ _ _ => false

/-- How many dispatcher steps of a schedule find the sink ready. -/
def readySteps (l : List Input) : Nat := l.count (.disp true)

/-- `k` display steps with the segment table `tbl`, one after the other. -/
def refreshTimes (tbl : SegTable) (k : Nat) (s : State) : Except Fault State :=
  match k with
  | 0 => .ok s
  | k + 1 =>
    match refreshWith tbl Config.nSlots s with
    | .ok s' => refreshTimes tbl k s'
    | .error e => .error e

/-- A segment table is injective on 0..9: what a claim that reads the display back needs (30_encoding.md R89). -/
def SegInjective (tbl : SegTable) : Prop :=
  ∀ d e : Digit, d.toNat ≤ 9 → segLookup tbl d = segLookup tbl e → d = e

end Sys2Proof.Safety
end

