-- ==== Sys2Proof/Certificates/Slice0/Obligations.lean ====
section
/-!
DEFINITION. The statements for the provers. Each docstring names the rules of spec/ it formalises or rests on.
-/

open Sys2Proof Sys2Proof.Machine Sys2Proof.Safety

/-! ## The two decoders -/

/-- Decode of encode is the operation, for every operation and every value of the letters of its pattern
(30_encoding.md R82, R85). -/
def Obligations.DecodeOfEncodeIsTheOperation : Prop :=
  ∀ (i : Instr) (letters : Nat), decodeWord (encode i letters).1 (encode i letters).2 = .ok i

/-- A number decodes to an operation exactly if it fits the format and matches that operation's row, so no word has two
meanings and every other number is refused (30_encoding.md R82, R85, R93). -/
def Obligations.WordSelectsOperationIffItsPatternMatches : Prop :=
  ∀ (f : Format) (w : Nat) (i : Instr),
    decodeWord f w = .ok i ↔ w < 2 ^ f.width ∧ i.row.format = f ∧ w &&& i.row.mask = i.row.pattern

/-- The sixteen dispatcher words and the operation each selects, written out (30_encoding.md R82). -/
def Obligations.SixteenDispatcherWords : Prop :=
  (List.range 16).map (decodeWord .d) =
    [.ok .wait, .ok .svcTick, .ok .svcEdgeA, .ok .svcTick, .ok .svcEdgeB, .ok .svcTick, .ok .svcEdgeA, .ok .svcTick,
      .ok .txb, .ok .txb, .ok .txb, .ok .txb, .ok .txb, .ok .txb, .ok .txb, .ok .txb]

/-- The eight handle words and the operation each selects, written out (30_encoding.md R85). -/
def Obligations.EightHandleWords : Prop :=
  (List.range 8).map (decodeWord .h) =
    [.ok .hsToggle, .ok .hsLapreset, .ok .hsSecond, .ok .hRsvd, .ok .hrToggle, .ok .hrLapreset, .ok .hrSecond, .ok .hRsvd]

/-- Where the bits of the two words come from, with the codes of `DS`, `ST` and `EV` (30_encoding.md R81, R84, R87). -/
def Obligations.BitsOfTheTwoWords : Prop :=
  (∀ s : State, (dword s).getLsbD 0 = s.tIF ∧ (dword s).getLsbD 1 = s.aIF ∧ (dword s).getLsbD 2 = s.bIF ∧
    (dword s).getLsbD 3 = (s.ds == .emit)) ∧
  (∀ (st : ChronoState) (ev : EvCode), (hword st ev).getLsbD 2 = (st == .running) ∧ (hword st ev).getLsbD 1 = ev.getLsbD 1 ∧
    (hword st ev).getLsbD 0 = ev.getLsbD 0) ∧
  (ChronoState.code .stopped = 0 ∧ ChronoState.code .running = 1 ∧ DispState.code .idle = 0 ∧ DispState.code .emit = 1) ∧
  (Event.code .toggle = 0b00 ∧ Event.code .lapReset = 0b01 ∧ Event.code .second = 0b10 ∧ ∀ ev, Event.code ev ≠ 0b11)

/-! ## The dispatcher -/

/-- The operation a state's dispatcher word selects: `TXB` while emitting, else the first pending of TICK, EDGEA, EDGEB,
else `WAIT` (60_exceptions.md R224); it is the selection with the service order as an argument, at the reference order. -/
def Obligations.DispatcherServesByFixedPriority : Prop :=
  ∀ s : State,
    decodeD (dword s) = .ok (if s.ds = .emit then .txb else if s.tIF = true then .svcTick else if s.aIF = true then .svcEdgeA
      else if s.bIF = true then .svcEdgeB else .wait) ∧
    decodeD (dword s) = .ok (selectByPrio [.tick, .edgeA, .edgeB] s)

/-- A step runs the operation the dispatcher word decodes to: when the schedule names the dispatcher, on the state with
that entry taken off and the sink's answer set; when the schedule is empty, with a free sink answer (log entries 1 and
2); in a clock cycle, with the environment's part of the cycle after it (R280). -/
def Obligations.StepRunsTheDecodedOperation : Prop :=
  ∀ (s : State) (i : Instr), decodeD (dword s) = .ok i →
    (∀ r rest, s.inputs = .disp r :: rest → step s = exec i { s with inputs := rest, txReady := r }) ∧
    (s.inputs = [] → step s = exec i { s with txReady := Config.sinkReady s.draws, draws := s.draws + 1 }) ∧
    (∀ a b r rest, s.inputs = .clk a b r :: rest →
      step s = afterDisp a b (exec i { s with inputs := rest, txReady := r }))

/-- A step runs the operation the handle word decodes to when the schedule holds a direct call `HANDLE(ev)`
(30_encoding.md R97); while a lap line is being sent the call faults (93 U16). -/
def Obligations.StepRunsADirectHandleCall : Prop :=
  ∀ (s : State) (ev : EvCode) (rest : List Input), s.inputs = .handle ev :: rest →
    (∀ i, s.ds = .idle → decodeH (hword s.st ev) = .ok i → step s = exec i { s with inputs := rest }) ∧
    (s.ds = .emit → step s = .fault .handleWhileEmitting)

/-- `WAIT`, the word `0000`, changes nothing (60_exceptions.md R225). -/
def Obligations.WaitChangesNothing : Prop :=
  decodeD 0b0000 = .ok .wait ∧ ∀ s : State, exec .wait s = .next s

/-- A service clears the flag of its source and no other flag (60_exceptions.md R222, R233). -/
def Obligations.ServiceClearsItsFlagAndNoOther : Prop :=
  ∀ (src : Source) (s t : State), exec (serviceOf src) s = .next t →
    t.pending src = false ∧ ∀ other, other ≠ src → t.pending other = s.pending other

/-- A pending flag goes from 1 to 0 only in a reset, or in a step of the dispatcher (by the schedule, with the schedule
empty, or inside a clock cycle) whose word selects the flag's own service (60_exceptions.md R222, R232). -/
def Obligations.FlagFallsOnlyByItsServiceOrReset : Prop :=
  ∀ (src : Source) (s t : State), step s = .next t → s.pending src = true → t.pending src = false →
    (∃ rest, s.inputs = .rst :: rest) ∨
    (decodeD (dword s) = .ok (serviceOf src) ∧
      (s.inputs = [] ∨ (∃ r rest, s.inputs = .disp r :: rest) ∨ (∃ a b r rest, s.inputs = .clk a b r :: rest)))

/-- A pending flag goes from 0 to 1 only when its source fires: an overflow for `TIF`, a sample low after a stored high
for `AIF` and `BIF`, each as a step or inside a clock cycle (10_state.md R44; 43_timebase.md R160, R165;
44_edge_events.md R180, R188; 70_reset_and_hazards.md R280). That a cycle's sample is the value of the last synchroniser
stage before the edge is the model's reading (log entry 14). -/
def Obligations.FlagRisesOnlyWhenItsSourceFires : Prop :=
  ∀ s t : State, step s = .next t →
    (s.tIF = false → t.tIF = true →
      (∃ rest, s.inputs = .ovf :: rest) ∨
      (∃ a b r rest, s.inputs = .clk a b r :: rest ∧ s.impl.tcnt + 1 = Config.tickPeriod)) ∧
    (s.aIF = false → t.aIF = true →
      s.la = true ∧ ((∃ rest, s.inputs = .sampleA false :: rest) ∨
        (∃ a b r rest, s.inputs = .clk a b r :: rest ∧ s.impl.a2 = false))) ∧
    (s.bIF = false → t.bIF = true →
      s.lb = true ∧ ((∃ rest, s.inputs = .sampleB false :: rest) ∨
        (∃ a b r rest, s.inputs = .clk a b r :: rest ∧ s.impl.b2 = false)))

/-- Three sources pending together are served TICK, EDGEA, EDGEB, one dispatcher step each; so LAP_RESET meets the
toggled chronometer: from STOPPED it starts a lap line of the unchanged Clock, from RUNNING it resets the Clock
(60_exceptions.md R226, R227). -/
def Obligations.ThreePendingSourcesAreServedInOrder : Prop :=
  ∀ (s : State) (r1 r2 r3 : Bool), MachineInv s → s.ds = .idle → s.tIF = true → s.aIF = true → s.bIF = true →
    ∃ t, runScript [.disp r1, .disp r2, .disp r3] s = .next t ∧
      t.tIF = false ∧ t.aIF = false ∧ t.bIF = false ∧ t.st = toggled s.st ∧ t.inputs = s.inputs ∧
      t.div.toNat = (s.div.toNat + 1) % 150 ∧ t.cur.toNat = (s.cur.toNat + 1) % 6 ∧
      (s.st = .stopped → t.ds = .emit ∧ t.txi = 0 ∧ t.clock = s.clock) ∧
      (s.st = .running → t.ds = .idle ∧ t.clock = ⟨0, 0, 0⟩ ∧ t.db = ⟨0, 0, 0, 0, 0, 0⟩)

/-! ## The environment's and the foreground's steps -/

/-- `OVF` sets `TIF` and nothing else, whatever it was and also during a lap line (43_timebase.md R160). -/
def Obligations.OverflowSetsTheTimerFlag : Prop :=
  ∀ (s : State) (rest : List Input), s.inputs = .ovf :: rest →
    step s = .next { s with inputs := rest, tIF := true }

/-- `SAMPLE.A(v)` and `SAMPLE.B(v)`: the flag is set exactly on a falling edge, the level is stored, nothing else changes
(44_edge_events.md R180). -/
def Obligations.SampleSetsFlagExactlyOnFallingEdge : Prop :=
  ∀ (s : State) (v : Bool) (rest : List Input),
    (s.inputs = .sampleA v :: rest →
      step s = .next { s with inputs := rest, aIF := if s.la = true ∧ v = false then true else s.aIF, la := v }) ∧
    (s.inputs = .sampleB v :: rest →
      step s = .next { s with inputs := rest, bIF := if s.lb = true ∧ v = false then true else s.bIF, lb := v })

/-- Any number of samples of one line leaves one pending bit: set if it was set or if the level fell anywhere along the
samples; falls merge (44_edge_events.md R180, R186). -/
def Obligations.SamplesOfALineMergeIntoOneFlag : Prop :=
  ∀ (vs : List Bool) (s : State),
    runScript (vs.map .sampleA) s = .next { s with aIF := s.aIF || anyFall s.la vs, la := vs.getLastD s.la } ∧
    runScript (vs.map .sampleB) s = .next { s with bIF := s.bIF || anyFall s.lb vs, lb := vs.getLastD s.lb }

/-- `RST` in any state: every register of 10_state.md R20 and the clocked realisation's registers are zero, `TXLOG` is
kept (70_reset_and_hazards.md R260). That the display log, the rest of the schedule, the sink's answer and the draws
are kept is the model's choice (log entry 10). -/
def Obligations.ResetStepZeroesEveryRegister : Prop :=
  ∀ (s : State) (rest : List Input), s.inputs = .rst :: rest →
    step s = .next
      { tIF := false, aIF := false, bIF := false, la := false, lb := false, div := 0, cur := 0,
        db := ⟨0, 0, 0, 0, 0, 0⟩, seg := 0, sel := 0, st := .stopped, clock := ⟨0, 0, 0⟩, ds := .idle, txi := 0,
        impl := ⟨0, false, false, false, false⟩,
        txlog := s.txlog, dispLog := s.dispLog, inputs := rest, txReady := s.txReady, draws := s.draws }

/-- Every register of 10_state.md R20 is zero in the state the model starts from and after the step `RST` from any state
(10_state.md R40). -/
def Obligations.EveryRegisterIsZeroAfterReset : Prop :=
  RegistersZero State.reset ∧
  ∀ (s : State) (rest : List Input), s.inputs = .rst :: rest → ∃ t, step s = .next t ∧ RegistersZero t

/-- `IDLE.FG` changes nothing (60_exceptions.md R238). That it may be scheduled in EMIT, where R238 does not enable it, and
then changes nothing too, is the model's choice (log entry 9). -/
def Obligations.ForegroundStepChangesNothing : Prop :=
  ∀ (s : State) (rest : List Input), s.inputs = .fg :: rest → step s = .next { s with inputs := rest }

/-! ## The display scan -/

/-- `REFRESH` lights the digit at the cursor, whatever the segment table: pattern, one-hot selector and cursor change
together, the pair is logged, and nothing else changes; the machine's `REFRESH` is that of the reference table
(42_display_mux.md R140, 30_encoding.md R89). -/
def Obligations.RefreshLightsTheDigitAtTheCursor : Prop :=
  (∀ (tbl : SegTable) (s : State) (d : Digit) (p : SegPattern),
    s.db.get? s.cur.toNat = some d → segLookup tbl d = some p →
    refreshWith tbl 6 s = .ok { s with
      seg := p, sel := 1#6 <<< s.cur.toNat, cur := BitVec.ofNat 3 ((s.cur.toNat + 1) % 6),
      dispLog := s.dispLog ++ [(p, 1#6 <<< s.cur.toNat)] }) ∧
  ∀ s : State, refresh s = refreshWith segReference 6 s

/-- The variant with a blank slot, `N_SLOTS = 7`: slot 6 shows nothing and wraps, slots 0 to 5 are as in R140, whatever
the segment table (42_display_mux.md R141). -/
def Obligations.BlankSlotVariantOfRefresh : Prop :=
  (∀ (tbl : SegTable) (s : State), s.cur = 6 →
    refreshWith tbl 7 s = .ok { s with seg := 0, sel := 0, cur := 0, dispLog := s.dispLog ++ [(0, 0)] }) ∧
  (∀ (tbl : SegTable) (s : State) (d : Digit) (p : SegPattern),
    s.db.get? s.cur.toNat = some d → segLookup tbl d = some p →
    refreshWith tbl 7 s = .ok { s with
      seg := p, sel := 1#6 <<< s.cur.toNat, cur := s.cur + 1, dispLog := s.dispLog ++ [(p, 1#6 <<< s.cur.toNat)] })

/-- Periodicity of the scan, whatever the segment table: `k` display steps move the cursor by `k` modulo 6 and light the
positions one after the other in cyclic order, leaving the buffer alone; so every multiple of 6 steps returns the
cursor, and six steps light every position once (42_display_mux.md R142). -/
def Obligations.ScanIsPeriodicAndRoundRobin : Prop :=
  ∀ (tbl : SegTable) (k : Nat) (s : State), s.cur.toNat ≤ 5 → DigitsOk s.db →
    ∃ t, refreshTimes tbl k s = .ok t ∧ t.cur.toNat = (s.cur.toNat + k) % 6 ∧ (6 ∣ k → t.cur = s.cur) ∧ t.db = s.db ∧
      t.dispLog.map Prod.snd =
        s.dispLog.map Prod.snd ++ (List.range k).map (fun j => selectorOf ((s.cur.toNat + j) % 6))

/-- Six display steps show the whole buffer: with a segment table that is injective on 0..9, two states with the same
cursor that have shown the same pairs after six display steps, starting from the same display log, hold the same buffer
(30_encoding.md R89; 42_display_mux.md R140, R142). -/
def Obligations.InjectiveTableReadsBackTheBuffer : Prop :=
  ∀ (tbl : SegTable) (s t u v : State), SegInjective tbl → s.cur.toNat ≤ 5 → t.cur = s.cur →
    t.dispLog = s.dispLog → DigitsOk s.db → DigitsOk t.db →
    refreshTimes tbl 6 s = .ok u → refreshTimes tbl 6 t = .ok v → u.dispLog = v.dispLog → s.db = t.db

/-- The reference segment table, its injectivity, its ten patterns different from blank, and the selector codes
(30_encoding.md R89, R90). The patterns are the reference value of a parameter (log entry 15). -/
def Obligations.SegmentTableAndSelectorCodes : Prop :=
  (List.range 10).map (fun n => segTable (BitVec.ofNat 4 n)) =
    [some 0x3F, some 0x06, some 0x5B, some 0x4F, some 0x66, some 0x6D, some 0x7D, some 0x07, some 0x7F, some 0x6F] ∧
  (∀ d : Digit, 10 ≤ d.toNat → segTable d = none) ∧
  SegInjective segReference ∧
  (∀ d : Digit, segTable d ≠ some segBlank) ∧
  (List.range 6).map selectorOf = [0b000001, 0b000010, 0b000100, 0b001000, 0b010000, 0b100000]

/-! ## The time base -/

/-- A tick service that does not complete a second: the flag is cleared, the digit at the cursor is lit, the divider
counts one, and nothing else changes (43_timebase.md R161, R162). -/
def Obligations.TickServiceRefreshesAndCounts : Prop :=
  ∀ (s : State) (d : Digit) (p : SegPattern), s.db.get? s.cur.toNat = some d → segTable d = some p →
    s.div.toNat < 149 →
    exec .svcTick s = .next { s with
      tIF := false, seg := p, sel := 1#6 <<< s.cur.toNat, cur := BitVec.ofNat 3 ((s.cur.toNat + 1) % 6),
      dispLog := s.dispLog ++ [(p, 1#6 <<< s.cur.toNat)], div := s.div + 1 }

/-- The tick service that completes a second while RUNNING: the display step uses the old buffer, then the divider
starts again and the Clock advances and is formatted (43_timebase.md R161, R162, R164; 40_chronometer_fsm.md R106). -/
def Obligations.TickServiceDeliversSecondWhileRunning : Prop :=
  ∀ (s : State) (d : Digit) (p : SegPattern), s.db.get? s.cur.toNat = some d → segTable d = some p →
    s.div.toNat = 149 → s.ds = .idle → s.st = .running → s.clock.InRange .corrected →
    exec .svcTick s = .next { s with
      tIF := false, seg := p, sel := 1#6 <<< s.cur.toNat, cur := BitVec.ofNat 3 ((s.cur.toNat + 1) % 6),
      dispLog := s.dispLog ++ [(p, 1#6 <<< s.cur.toNat)], div := 0,
      clock := advanceCorrected s.clock, db := formatOf (advanceCorrected s.clock) }

/-- The tick service that completes a second while STOPPED: the divider starts again, the Clock ignores the event
(43_timebase.md R161, R162, R163; 40_chronometer_fsm.md R103). -/
def Obligations.TickServiceDeliversSecondWhileStopped : Prop :=
  ∀ (s : State) (d : Digit) (p : SegPattern), s.db.get? s.cur.toNat = some d → segTable d = some p →
    s.div.toNat = 149 → s.ds = .idle → s.st = .stopped →
    exec .svcTick s = .next { s with
      tIF := false, seg := p, sel := 1#6 <<< s.cur.toNat, cur := BitVec.ofNat 3 ((s.cur.toNat + 1) % 6),
      dispLog := s.dispLog ++ [(p, 1#6 <<< s.cur.toNat)], div := 0 }

/-- Rate conversion, exact, on the running machine: after `k` ticks (each `OVF` and the dispatcher's step) from an idle
state, the divider has moved by `k` modulo 150, the cursor by `k` modulo 6, and a RUNNING Clock has advanced once per
completed second while a STOPPED one has not moved; the buttons' registers and the byte log are untouched
(43_timebase.md R163, R167; 41_clock.md R128). -/
def Obligations.TicksAreConvertedToSecondsExactly : Prop :=
  ∀ (k : Nat) (ready : Bool) (s : State), MachineInv s → s.ds = .idle →
    ∃ t, runScript (timesSteps k (tickSteps ready)) s = .next t ∧
      t.div.toNat = (s.div.toNat + k) % 150 ∧ t.cur.toNat = (s.cur.toNat + k) % 6 ∧
      t.clock = (if s.st = .running then (advanceClock .corrected)^[(s.div.toNat + k) / 150] s.clock else s.clock) ∧
      t.db = formatOf t.clock ∧ (0 < k → t.tIF = false) ∧ t.st = s.st ∧ t.ds = .idle ∧ t.aIF = s.aIF ∧ t.bIF = s.bIF ∧
      t.la = s.la ∧ t.lb = s.lb ∧ t.txlog = s.txlog ∧ t.inputs = s.inputs

/-! ## The edge services and the chronometer machine -/

/-- `SVC.EDGEA`, the words `0 b 1 0`: the flag is cleared and the chronometer toggles, nothing else changes
(44_edge_events.md R182). -/
def Obligations.EdgeAServiceToggles : Prop :=
  decodeD 0b0010 = .ok .svcEdgeA ∧ decodeD 0b0110 = .ok .svcEdgeA ∧
  ∀ s : State, s.ds = .idle → exec .svcEdgeA s = .next { s with aIF := false, st := toggled s.st }

/-- `SVC.EDGEB`, the word `0100`: while STOPPED it resets the Clock and the buffer; while RUNNING it starts the lap line
(44_edge_events.md R183). -/
def Obligations.EdgeBServiceResetsOrStartsALine : Prop :=
  decodeD 0b0100 = .ok .svcEdgeB ∧
  (∀ s : State, s.ds = .idle → s.st = .stopped →
    exec .svcEdgeB s = .next { s with bIF := false, clock := ⟨0, 0, 0⟩, db := ⟨0, 0, 0, 0, 0, 0⟩ }) ∧
  (∀ s : State, s.ds = .idle → s.txi = 0 → s.st = .running →
    exec .svcEdgeB s = .next { s with bIF := false, ds := .emit, txi := 0 })

/-- `HS.TOGGLE`, the word `000`, writes `ST` only (40_chronometer_fsm.md R101). -/
def Obligations.ToggleStartsAStoppedChronometer : Prop :=
  decodeH 0b000 = .ok .hsToggle ∧ ∀ s : State, exec .hsToggle s = .next { s with st := .running }

/-- `HR.TOGGLE`, the word `100`, writes `ST` only (40_chronometer_fsm.md R104). -/
def Obligations.ToggleStopsARunningChronometer : Prop :=
  decodeH 0b100 = .ok .hrToggle ∧ ∀ s : State, exec .hrToggle s = .next { s with st := .stopped }

/-- `HS.LAPRESET`, the word `001`, zeroes the Clock and the buffer and sends nothing (40_chronometer_fsm.md R102). -/
def Obligations.LapResetWhileStoppedZeroesTheClock : Prop :=
  decodeH 0b001 = .ok .hsLapreset ∧ ∀ s : State, exec .hsLapreset s = .next { s with clock := ⟨0, 0, 0⟩, db := ⟨0, 0, 0, 0, 0, 0⟩ }

/-- `HS.SECOND`, the word `010`, is an explicit no-op (40_chronometer_fsm.md R103). -/
def Obligations.SecondWhileStoppedChangesNothing : Prop :=
  decodeH 0b010 = .ok .hsSecond ∧ ∀ s : State, exec .hsSecond s = .next s

/-- `HR.LAPRESET` enters the emission of a lap line and changes nothing else (40_chronometer_fsm.md R105, 45_text_sink.md
R201). -/
def Obligations.LapResetWhileRunningStartsALine : Prop :=
  ∀ s : State, s.ds = .idle → s.txi = 0 → exec .hrLapreset s = .next { s with ds := .emit, txi := 0 }

/-- `HR.SECOND` advances the Clock in `corrected` mode, field by field, and rewrites the buffer (40_chronometer_fsm.md
R106, 41_clock.md R121). -/
def Obligations.SecondWhileRunningAdvancesTheClock : Prop :=
  ∀ s : State, s.clock.InRange .corrected →
    ∃ c : Clock, exec .hrSecond s = .next { s with clock := c, db := formatOf c } ∧
      (s.clock.ss.toNat < 59 → c = { s.clock with ss := s.clock.ss + 1 }) ∧
      (s.clock.ss.toNat = 59 → s.clock.mm.toNat < 59 → c = { s.clock with ss := 0, mm := s.clock.mm + 1 }) ∧
      (s.clock.ss.toNat = 59 → s.clock.mm.toNat = 59 → s.clock.hh.toNat < 12 → c = ⟨s.clock.hh + 1, 0, 0⟩) ∧
      (s.clock.ss.toNat = 59 → s.clock.mm.toNat = 59 → s.clock.hh.toNat = 12 → c = ⟨0, 0, 0⟩)

/-- `H.RSVD`, the words `s 11`, faults in every state (40_chronometer_fsm.md R107). -/
def Obligations.ReservedEventCodeFaults : Prop :=
  decodeH 0b011 = .ok .hRsvd ∧ decodeH 0b111 = .ok .hRsvd ∧ ∀ s : State, exec .hRsvd s = .fault .reservedEventCode

/-- `HANDLE(ev)` of the services, by state and event, is the transition that the handle word `ST, EV` decodes to
(40_chronometer_fsm.md R100, 30_encoding.md R85). -/
def Obligations.HandleIsTheDecodedTransition : Prop :=
  ∀ (ev : Event) (s : State), finish (handle ev s) = handleStep ev.code s

/-- TOGGLE twice gives back the state it started from, and once does not (40_chronometer_fsm.md R104). -/
def Obligations.ToggleIsAnInvolution : Prop :=
  ∀ s : State, s.ds = .idle → ∃ t, handle .toggle s = .ok t ∧ t.st ≠ s.st ∧ handle .toggle t = .ok s

/-! ## The Clock -/

/-- Both rollover modes count: within the ranges of the mode, `ADVANCE` stays within them and moves one place along the
Clock's cycle, whose length is 46800 in `corrected` and 52094 in `source_compatible` mode (41_clock.md R121, R122). -/
def Obligations.AdvanceMovesOnePlaceInTheClockCycle : Prop :=
  clockStates .corrected = 46800 ∧ clockStates .sourceCompatible = 52094 ∧
  ∀ (m : RolloverMode) (c : Clock), c.InRange m →
    (advanceClock m c).InRange m ∧ clockIndex m (advanceClock m c) = (clockIndex m c + 1) % clockStates m

/-- The Clock runs through one cycle: `n` calls of `ADVANCE` return to the start exactly if `n` is a multiple of the
number of Clock values, from every legal value, in both modes (41_clock.md R121, R122). -/
def Obligations.ClockReturnsExactlyAfterItsFullCycle : Prop :=
  ∀ (m : RolloverMode) (c : Clock), c.InRange m → ∀ n : Nat, (advanceClock m)^[n] c = c ↔ clockStates m ∣ n

/-- `FORMAT` writes six decimal digits, tens and ones of each counter, and nothing else (41_clock.md R124). -/
def Obligations.FormatWritesTheSixDigits : Prop :=
  ∀ s : State, ∃ d : Digits, format s = { s with db := d } ∧ DigitsOk d ∧
    d.h10.toNat = s.clock.hh.toNat / 10 ∧ d.h1.toNat = s.clock.hh.toNat % 10 ∧
    d.m10.toNat = s.clock.mm.toNat / 10 ∧ d.m1.toNat = s.clock.mm.toNat % 10 ∧
    d.s10.toNat = s.clock.ss.toNat / 10 ∧ d.s1.toNat = s.clock.ss.toNat % 10

/-- `CLKRESET` zeroes the three counters and the buffer and writes nothing else (41_clock.md R123). -/
def Obligations.ClockResetWritesOnlyClockAndBuffer : Prop :=
  ∀ s : State, clkReset s = { s with clock := ⟨0, 0, 0⟩, db := ⟨0, 0, 0, 0, 0, 0⟩ }

/-! ## The lap line -/

/-- `TXB` with the sink ready and a byte before the last: that byte of the lap line is sent, the index moves on, nothing
else changes (45_text_sink.md R203, 20_memory.md R63). -/
def Obligations.TxbSendsTheNextByte : Prop :=
  ∀ (s : State) (b : Byte), s.txReady = true → s.txi.toNat < 12 → DigitsOk s.db →
    (lapLine s.db)[s.txi.toNat]? = some b →
    exec .txb s = .next { s with txlog := s.txlog ++ [b], txi := s.txi + 1 }

/-- `TXB` with the sink ready and the last byte: the line feed is sent and the handler returns (45_text_sink.md R203). -/
def Obligations.TxbSendsTheLastByteAndReturns : Prop :=
  ∀ s : State, s.txReady = true → s.txi = 12 →
    exec .txb s = .next { s with txlog := s.txlog ++ [0x0A], ds := .idle, txi := 0 }

/-- While the sink is not ready the dispatcher waits and nothing changes (45_text_sink.md R203, R204, R208). -/
def Obligations.TxbWaitsForTheSink : Prop :=
  ∀ s : State, s.txReady = false → exec .txb s = .next s

/-- The bytes of the lap line by index are the thirteen of R91, and there is no fourteenth (20_memory.md R63). -/
def Obligations.LapLineHasThirteenBytes : Prop :=
  ∀ (d : Digits) (k : Nat), DigitsOk d →
    (∀ b, lapByte d k = .ok b ↔ (lapLine d)[k]? = some b) ∧ (13 ≤ k → lapByte d k = .error .byteIndexOutOfRange)

/-- From the start of a lap line, under any interleaving of overflows, samples, foreground steps and dispatcher steps
with the sink ready or not: as long as at most twelve dispatcher steps found it ready, exactly that many bytes of the
line of the Clock at the moment of the event have been sent and no source has been served; one more ready step completes
the line and returns (45_text_sink.md R204, R205, R206; 60_exceptions.md R231). -/
def Obligations.LapLineIsSentOnceAndUndisturbed : Prop :=
  ∀ (l : List Input) (s : State), DigitsOk s.db → s.ds = .emit → s.txi = 0 →
    (∀ x ∈ l, isPlainStep x = true) → readySteps l ≤ 12 →
    ∃ t, runScript l s = .next t ∧
      t.txlog = s.txlog ++ (lapLine s.db).take (readySteps l) ∧ t.ds = .emit ∧ t.txi.toNat = readySteps l ∧
      t.clock = s.clock ∧ t.db = s.db ∧ t.st = s.st ∧ t.div = s.div ∧ t.cur = s.cur ∧ t.seg = s.seg ∧ t.sel = s.sel ∧
      t.dispLog = s.dispLog ∧ t.impl = s.impl ∧
      (readySteps l = 12 → ∃ u, runScript (l ++ [.disp true]) s = .next u ∧
        u.txlog = s.txlog ++ lapLine s.db ∧ u.ds = .idle ∧ u.txi = 0 ∧ u.clock = s.clock ∧ u.db = s.db ∧ u.st = s.st ∧
        u.div = s.div ∧ u.cur = s.cur ∧ u.seg = s.seg ∧ u.sel = s.sel ∧ u.dispLog = s.dispLog ∧ u.impl = s.impl ∧
        u.tIF = t.tIF ∧ u.aIF = t.aIF ∧ u.bIF = t.bIF)

/-- The outputs to the text sink (45_text_sink.md R200). -/
def Obligations.TextSinkOutputs : Prop :=
  (∀ s : State, txValid s = true ↔ s.ds = .emit) ∧
  (∀ s : State, s.ds = .idle → txData s = .ok 0x00) ∧
  (∀ (s : State) (b : Byte), s.ds = .emit → DigitsOk s.db → (lapLine s.db)[s.txi.toNat]? = some b → txData s = .ok b)

/-! ## The whole machine -/

/-- Which operation may change which register: the access matrix for the operations of the opcode table
(10_state.md R45). -/
def Obligations.EachRegisterHasItsWriters : Prop :=
  ∀ (i : Instr) (s t : State), exec i s = .next t →
    (t.la = s.la ∧ t.lb = s.lb ∧ t.impl = s.impl ∧ t.inputs = s.inputs ∧ t.txReady = s.txReady ∧ t.draws = s.draws) ∧
    (i ≠ .svcTick → t.tIF = s.tIF ∧ t.div = s.div ∧ t.cur = s.cur ∧ t.seg = s.seg ∧ t.sel = s.sel ∧
      t.dispLog = s.dispLog) ∧
    (i ≠ .svcEdgeA → t.aIF = s.aIF) ∧ (i ≠ .svcEdgeB → t.bIF = s.bIF) ∧ (i ≠ .txb → t.txlog = s.txlog) ∧
    (i ∉ [Instr.svcTick, .svcEdgeB, .hsLapreset, .hrSecond] → t.clock = s.clock ∧ t.db = s.db) ∧
    (i ∉ [Instr.svcEdgeA, .hsToggle, .hrToggle] → t.st = s.st) ∧
    (i ∉ [Instr.svcEdgeB, .txb, .hrLapreset] → t.ds = s.ds ∧ t.txi = s.txi)

/-- The logs only grow: no step, a reset included, takes back a byte the sink received or a pair the display showed, and
no step sends more than one byte (10_state.md R37, 45_text_sink.md R209; for the display log, log entry 10). -/
def Obligations.LogsOnlyGrow : Prop :=
  ∀ s t : State, step s = .next t →
    s.txlog <+: t.txlog ∧ t.txlog.length ≤ s.txlog.length + 1 ∧ s.dispLog <+: t.dispLog

/-- The invariant holds at reset (10_state.md R40 to R43). -/
def Obligations.InvariantHoldsAtReset : Prop := MachineInv State.reset

/-- Every step keeps the invariant: the ranges, the buffer as `FORMAT` of the Clock, one digit lit before the cursor, and
the sink having received the first bytes of the line being sent (10_state.md R41, R42, R43; 45_text_sink.md R205,
R206). -/
def Obligations.EveryStepKeepsTheInvariant : Prop :=
  ∀ s t : State, MachineInv s → step s = .next t → MachineInv t

/-- No fault and no refusal is reachable: from a state with the invariant every step answers a next state, unless the
schedule holds a direct call that the hardware never makes (the reserved event code, or a call while a lap line is being
sent) (60_exceptions.md R240, 20_memory.md R66, 30_encoding.md R86). -/
def Obligations.NoStepFaultsUnderTheInvariant : Prop :=
  ∀ s : State, MachineInv s → (∀ ev rest, s.inputs = .handle ev :: rest → s.ds = .idle ∧ ev ≠ 0b11) →
    ∃ t, step s = .next t

/-- Where an operation meets a value the rules make unreachable it faults by name (20_memory.md R66, 30_encoding.md R83,
93 U11 to U16); which operation checks which value is the model's choice (log entry 8). -/
def Obligations.UnreachableValuesFaultByName : Prop :=
  (∀ s : State, 6 ≤ s.cur.toNat → exec .svcTick s = .fault .cursorOutOfRange) ∧
  (∀ (s : State) (d : Digit), s.db.get? s.cur.toNat = some d → 10 ≤ d.toNat →
    exec .svcTick s = .fault .digitOutOfRange) ∧
  (∀ (s : State) (d : Digit), s.db.get? s.cur.toNat = some d → d.toNat ≤ 9 → 150 ≤ s.div.toNat →
    exec .svcTick s = .fault .dividerOutOfRange) ∧
  (∀ s : State, s.txReady = true → 13 ≤ s.txi.toNat → exec .txb s = .fault .byteIndexOutOfRange) ∧
  (∀ (s : State) (d : Digit), s.txReady = true → 5 ≤ s.txi.toNat → s.txi.toNat ≤ 10 →
    s.db.get? (s.txi.toNat - 5) = some d → 10 ≤ d.toNat → exec .txb s = .fault .digitOutOfRange) ∧
  (∀ s : State, ¬ s.clock.InRange .corrected → exec .hrSecond s = .fault .clockOutOfRange) ∧
  (∀ s : State, s.ds = .idle → s.txi ≠ 0 → exec .hrLapreset s = .fault .byteIndexOutOfRange) ∧
  (∀ s : State, s.ds = .emit → exec .svcEdgeA s = .fault .handleWhileEmitting ∧
    exec .svcEdgeB s = .fault .handleWhileEmitting ∧ exec .hrLapreset s = .fault .handleWhileEmitting)

/-! ## The clocked realisation -/

/-- One clock cycle is one legal schedule of the event-level machine: the dispatcher's step, then the overflow if due,
then a sample of each line; besides it only the timer count and the synchroniser stages move (70_reset_and_hazards.md
R280). The sampled values are those of log entry 14. -/
def Obligations.ClockCycleIsALegalSchedule : Prop :=
  ∀ (s : State) (a b r : Bool) (rest : List Input), s.inputs = .clk a b r :: rest →
    step s =
      match runScript (.disp r :: cycleInputs s.impl) { s with inputs := rest } with
      | .next t => .next { t with impl := s.impl.tick a b }
      | .fault e => .fault e
      | .refused e => .refused e

/-- Set wins over clear: if a source fires in a cycle its flag is 1 after the cycle, even if the dispatcher served it in
that cycle (70_reset_and_hazards.md R281). That a line fires in a cycle if its stored level is high and its last
synchroniser stage is low before the edge is the model's reading of 44_edge_events.md R188 (log entry 14). -/
def Obligations.SetWinsOverClearInOneCycle : Prop :=
  ∀ (s t : State) (a b r : Bool) (rest : List Input), s.inputs = .clk a b r :: rest → step s = .next t →
    (s.impl.tcnt + 1 = Config.tickPeriod → t.tIF = true) ∧
    (s.la = true → s.impl.a2 = false → t.aIF = true) ∧
    (s.lb = true → s.impl.b2 = false → t.bIF = true)

/-- The timer counts every cycle and starts again after `TICK_PERIOD`, and each line's level moves one synchroniser stage
per cycle before it is stored (43_timebase.md R165, 44_edge_events.md R188; log entries 12 and 14). -/
def Obligations.TimerAndSynchronisersPerCycle : Prop :=
  ∀ (s t : State) (a b r : Bool) (rest : List Input), s.inputs = .clk a b r :: rest → step s = .next t →
    t.impl.tcnt = (if s.impl.tcnt + 1 = Config.tickPeriod then 0 else s.impl.tcnt + 1) ∧
    t.impl.a1 = a ∧ t.impl.a2 = s.impl.a1 ∧ t.la = s.impl.a2 ∧
    t.impl.b1 = b ∧ t.impl.b2 = s.impl.b1 ∧ t.lb = s.impl.b2
end

