-- ==== Sys2Proof/Laws/Decode.lean ====
section
/-!
SUPPORT. The opcode table has no two rows that match one word, and every word of each format has a row.
-/
namespace Sys2Proof

/-- No dispatcher word matches two rows (30_encoding.md R82). -/
theorem formatDRows_disjoint :
    formatDRows.Pairwise (fun r q => ∀ w < 16, ¬ (r.hits w = true ∧ q.hits w = true)) := by decide

/-- No handle word matches two rows (30_encoding.md R85). -/
theorem formatHRows_disjoint :
    formatHRows.Pairwise (fun r q => ∀ w < 8, ¬ (r.hits w = true ∧ q.hits w = true)) := by decide

/-- Every dispatcher word has a row. -/
theorem formatDRows_total : ∀ w < 16, ∃ r ∈ formatDRows, r.hits w = true := by decide

/-- Every handle word has a row. -/
theorem formatHRows_total : ∀ w < 8, ∃ r ∈ formatHRows, r.hits w = true := by decide

/-- A number too wide for its format is no word of it. -/
theorem decodeWord_tooWide {f : Format} {w : Nat} (h : 2 ^ f.width ≤ w) : decodeWord f w = .error .wordTooWide := by
  simp [decodeWord, Nat.not_lt.mpr h]

/-- The row an operation belongs to stands in the table of its format. -/
theorem row_mem (i : Instr) : i.row ∈ i.row.format.rows := by cases i <;> decide

end Sys2Proof
end

