-- ==== Sys2Proof/Laws/State.lean ====
section
/-!
SUPPORT. One lemma per field per update of the state, each true by unfolding, so that no later proof unfolds a record
update.
-/
namespace Sys2Proof.Machine

@[simp] theorem State.handlerReturn_tIF (s : State) : s.handlerReturn.tIF = s.tIF := rfl
@[simp] theorem State.handlerReturn_aIF (s : State) : s.handlerReturn.aIF = s.aIF := rfl
@[simp] theorem State.handlerReturn_bIF (s : State) : s.handlerReturn.bIF = s.bIF := rfl
@[simp] theorem State.handlerReturn_la (s : State) : s.handlerReturn.la = s.la := rfl
@[simp] theorem State.handlerReturn_lb (s : State) : s.handlerReturn.lb = s.lb := rfl
@[simp] theorem State.handlerReturn_div (s : State) : s.handlerReturn.div = s.div := rfl
@[simp] theorem State.handlerReturn_cur (s : State) : s.handlerReturn.cur = s.cur := rfl
@[simp] theorem State.handlerReturn_db (s : State) : s.handlerReturn.db = s.db := rfl
@[simp] theorem State.handlerReturn_seg (s : State) : s.handlerReturn.seg = s.seg := rfl
@[simp] theorem State.handlerReturn_sel (s : State) : s.handlerReturn.sel = s.sel := rfl
@[simp] theorem State.handlerReturn_st (s : State) : s.handlerReturn.st = s.st := rfl
@[simp] theorem State.handlerReturn_clock (s : State) : s.handlerReturn.clock = s.clock := rfl
@[simp] theorem State.handlerReturn_ds (s : State) : s.handlerReturn.ds = .idle := rfl
@[simp] theorem State.handlerReturn_txi (s : State) : s.handlerReturn.txi = 0 := rfl
@[simp] theorem State.handlerReturn_txlog (s : State) : s.handlerReturn.txlog = s.txlog := rfl
@[simp] theorem State.handlerReturn_dispLog (s : State) : s.handlerReturn.dispLog = s.dispLog := rfl
@[simp] theorem State.handlerReturn_impl (s : State) : s.handlerReturn.impl = s.impl := rfl
@[simp] theorem State.handlerReturn_inputs (s : State) : s.handlerReturn.inputs = s.inputs := rfl
@[simp] theorem State.handlerReturn_txReady (s : State) : s.handlerReturn.txReady = s.txReady := rfl
@[simp] theorem State.handlerReturn_draws (s : State) : s.handlerReturn.draws = s.draws := rfl

@[simp] theorem State.enterEmit_tIF (s : State) : s.enterEmit.tIF = s.tIF := rfl
@[simp] theorem State.enterEmit_aIF (s : State) : s.enterEmit.aIF = s.aIF := rfl
@[simp] theorem State.enterEmit_bIF (s : State) : s.enterEmit.bIF = s.bIF := rfl
@[simp] theorem State.enterEmit_la (s : State) : s.enterEmit.la = s.la := rfl
@[simp] theorem State.enterEmit_lb (s : State) : s.enterEmit.lb = s.lb := rfl
@[simp] theorem State.enterEmit_div (s : State) : s.enterEmit.div = s.div := rfl
@[simp] theorem State.enterEmit_cur (s : State) : s.enterEmit.cur = s.cur := rfl
@[simp] theorem State.enterEmit_db (s : State) : s.enterEmit.db = s.db := rfl
@[simp] theorem State.enterEmit_seg (s : State) : s.enterEmit.seg = s.seg := rfl
@[simp] theorem State.enterEmit_sel (s : State) : s.enterEmit.sel = s.sel := rfl
@[simp] theorem State.enterEmit_st (s : State) : s.enterEmit.st = s.st := rfl
@[simp] theorem State.enterEmit_clock (s : State) : s.enterEmit.clock = s.clock := rfl
@[simp] theorem State.enterEmit_ds (s : State) : s.enterEmit.ds = .emit := rfl
@[simp] theorem State.enterEmit_txi (s : State) : s.enterEmit.txi = 0 := rfl
@[simp] theorem State.enterEmit_txlog (s : State) : s.enterEmit.txlog = s.txlog := rfl
@[simp] theorem State.enterEmit_dispLog (s : State) : s.enterEmit.dispLog = s.dispLog := rfl
@[simp] theorem State.enterEmit_impl (s : State) : s.enterEmit.impl = s.impl := rfl
@[simp] theorem State.enterEmit_inputs (s : State) : s.enterEmit.inputs = s.inputs := rfl
@[simp] theorem State.enterEmit_txReady (s : State) : s.enterEmit.txReady = s.txReady := rfl
@[simp] theorem State.enterEmit_draws (s : State) : s.enterEmit.draws = s.draws := rfl

@[simp] theorem State.sendByte_tIF (b : Byte) (s : State) : (s.sendByte b).tIF = s.tIF := rfl
@[simp] theorem State.sendByte_aIF (b : Byte) (s : State) : (s.sendByte b).aIF = s.aIF := rfl
@[simp] theorem State.sendByte_bIF (b : Byte) (s : State) : (s.sendByte b).bIF = s.bIF := rfl
@[simp] theorem State.sendByte_la (b : Byte) (s : State) : (s.sendByte b).la = s.la := rfl
@[simp] theorem State.sendByte_lb (b : Byte) (s : State) : (s.sendByte b).lb = s.lb := rfl
@[simp] theorem State.sendByte_div (b : Byte) (s : State) : (s.sendByte b).div = s.div := rfl
@[simp] theorem State.sendByte_cur (b : Byte) (s : State) : (s.sendByte b).cur = s.cur := rfl
@[simp] theorem State.sendByte_db (b : Byte) (s : State) : (s.sendByte b).db = s.db := rfl
@[simp] theorem State.sendByte_seg (b : Byte) (s : State) : (s.sendByte b).seg = s.seg := rfl
@[simp] theorem State.sendByte_sel (b : Byte) (s : State) : (s.sendByte b).sel = s.sel := rfl
@[simp] theorem State.sendByte_st (b : Byte) (s : State) : (s.sendByte b).st = s.st := rfl
@[simp] theorem State.sendByte_clock (b : Byte) (s : State) : (s.sendByte b).clock = s.clock := rfl
@[simp] theorem State.sendByte_ds (b : Byte) (s : State) : (s.sendByte b).ds = s.ds := rfl
@[simp] theorem State.sendByte_txi (b : Byte) (s : State) : (s.sendByte b).txi = s.txi := rfl
@[simp] theorem State.sendByte_txlog (b : Byte) (s : State) : (s.sendByte b).txlog = s.txlog ++ [b] := rfl
@[simp] theorem State.sendByte_dispLog (b : Byte) (s : State) : (s.sendByte b).dispLog = s.dispLog := rfl
@[simp] theorem State.sendByte_impl (b : Byte) (s : State) : (s.sendByte b).impl = s.impl := rfl
@[simp] theorem State.sendByte_inputs (b : Byte) (s : State) : (s.sendByte b).inputs = s.inputs := rfl
@[simp] theorem State.sendByte_txReady (b : Byte) (s : State) : (s.sendByte b).txReady = s.txReady := rfl
@[simp] theorem State.sendByte_draws (b : Byte) (s : State) : (s.sendByte b).draws = s.draws := rfl

@[simp] theorem State.nextByte_tIF (s : State) : s.nextByte.tIF = s.tIF := rfl
@[simp] theorem State.nextByte_aIF (s : State) : s.nextByte.aIF = s.aIF := rfl
@[simp] theorem State.nextByte_bIF (s : State) : s.nextByte.bIF = s.bIF := rfl
@[simp] theorem State.nextByte_la (s : State) : s.nextByte.la = s.la := rfl
@[simp] theorem State.nextByte_lb (s : State) : s.nextByte.lb = s.lb := rfl
@[simp] theorem State.nextByte_div (s : State) : s.nextByte.div = s.div := rfl
@[simp] theorem State.nextByte_cur (s : State) : s.nextByte.cur = s.cur := rfl
@[simp] theorem State.nextByte_db (s : State) : s.nextByte.db = s.db := rfl
@[simp] theorem State.nextByte_seg (s : State) : s.nextByte.seg = s.seg := rfl
@[simp] theorem State.nextByte_sel (s : State) : s.nextByte.sel = s.sel := rfl
@[simp] theorem State.nextByte_st (s : State) : s.nextByte.st = s.st := rfl
@[simp] theorem State.nextByte_clock (s : State) : s.nextByte.clock = s.clock := rfl
@[simp] theorem State.nextByte_ds (s : State) : s.nextByte.ds = s.ds := rfl
@[simp] theorem State.nextByte_txi (s : State) : s.nextByte.txi = s.txi + 1 := rfl
@[simp] theorem State.nextByte_txlog (s : State) : s.nextByte.txlog = s.txlog := rfl
@[simp] theorem State.nextByte_dispLog (s : State) : s.nextByte.dispLog = s.dispLog := rfl
@[simp] theorem State.nextByte_impl (s : State) : s.nextByte.impl = s.impl := rfl
@[simp] theorem State.nextByte_inputs (s : State) : s.nextByte.inputs = s.inputs := rfl
@[simp] theorem State.nextByte_txReady (s : State) : s.nextByte.txReady = s.txReady := rfl
@[simp] theorem State.nextByte_draws (s : State) : s.nextByte.draws = s.draws := rfl

@[simp] theorem State.showDigit_tIF (p : SegPattern) (q : Selector) (c : BitVec 3) (s : State) : (s.showDigit p q c).tIF = s.tIF := rfl
@[simp] theorem State.showDigit_aIF (p : SegPattern) (q : Selector) (c : BitVec 3) (s : State) : (s.showDigit p q c).aIF = s.aIF := rfl
@[simp] theorem State.showDigit_bIF (p : SegPattern) (q : Selector) (c : BitVec 3) (s : State) : (s.showDigit p q c).bIF = s.bIF := rfl
@[simp] theorem State.showDigit_la (p : SegPattern) (q : Selector) (c : BitVec 3) (s : State) : (s.showDigit p q c).la = s.la := rfl
@[simp] theorem State.showDigit_lb (p : SegPattern) (q : Selector) (c : BitVec 3) (s : State) : (s.showDigit p q c).lb = s.lb := rfl
@[simp] theorem State.showDigit_div (p : SegPattern) (q : Selector) (c : BitVec 3) (s : State) : (s.showDigit p q c).div = s.div := rfl
@[simp] theorem State.showDigit_cur (p : SegPattern) (q : Selector) (c : BitVec 3) (s : State) : (s.showDigit p q c).cur = c := rfl
@[simp] theorem State.showDigit_db (p : SegPattern) (q : Selector) (c : BitVec 3) (s : State) : (s.showDigit p q c).db = s.db := rfl
@[simp] theorem State.showDigit_seg (p : SegPattern) (q : Selector) (c : BitVec 3) (s : State) : (s.showDigit p q c).seg = p := rfl
@[simp] theorem State.showDigit_sel (p : SegPattern) (q : Selector) (c : BitVec 3) (s : State) : (s.showDigit p q c).sel = q := rfl
@[simp] theorem State.showDigit_st (p : SegPattern) (q : Selector) (c : BitVec 3) (s : State) : (s.showDigit p q c).st = s.st := rfl
@[simp] theorem State.showDigit_clock (p : SegPattern) (q : Selector) (c : BitVec 3) (s : State) : (s.showDigit p q c).clock = s.clock := rfl
@[simp] theorem State.showDigit_ds (p : SegPattern) (q : Selector) (c : BitVec 3) (s : State) : (s.showDigit p q c).ds = s.ds := rfl
@[simp] theorem State.showDigit_txi (p : SegPattern) (q : Selector) (c : BitVec 3) (s : State) : (s.showDigit p q c).txi = s.txi := rfl
@[simp] theorem State.showDigit_txlog (p : SegPattern) (q : Selector) (c : BitVec 3) (s : State) : (s.showDigit p q c).txlog = s.txlog := rfl
@[simp] theorem State.showDigit_dispLog (p : SegPattern) (q : Selector) (c : BitVec 3) (s : State) : (s.showDigit p q c).dispLog = s.dispLog ++ [(p, q)] := rfl
@[simp] theorem State.showDigit_impl (p : SegPattern) (q : Selector) (c : BitVec 3) (s : State) : (s.showDigit p q c).impl = s.impl := rfl
@[simp] theorem State.showDigit_inputs (p : SegPattern) (q : Selector) (c : BitVec 3) (s : State) : (s.showDigit p q c).inputs = s.inputs := rfl
@[simp] theorem State.showDigit_txReady (p : SegPattern) (q : Selector) (c : BitVec 3) (s : State) : (s.showDigit p q c).txReady = s.txReady := rfl
@[simp] theorem State.showDigit_draws (p : SegPattern) (q : Selector) (c : BitVec 3) (s : State) : (s.showDigit p q c).draws = s.draws := rfl

@[simp] theorem State.setDiv_tIF (n : BitVec 8) (s : State) : (s.setDiv n).tIF = s.tIF := rfl
@[simp] theorem State.setDiv_aIF (n : BitVec 8) (s : State) : (s.setDiv n).aIF = s.aIF := rfl
@[simp] theorem State.setDiv_bIF (n : BitVec 8) (s : State) : (s.setDiv n).bIF = s.bIF := rfl
@[simp] theorem State.setDiv_la (n : BitVec 8) (s : State) : (s.setDiv n).la = s.la := rfl
@[simp] theorem State.setDiv_lb (n : BitVec 8) (s : State) : (s.setDiv n).lb = s.lb := rfl
@[simp] theorem State.setDiv_div (n : BitVec 8) (s : State) : (s.setDiv n).div = n := rfl
@[simp] theorem State.setDiv_cur (n : BitVec 8) (s : State) : (s.setDiv n).cur = s.cur := rfl
@[simp] theorem State.setDiv_db (n : BitVec 8) (s : State) : (s.setDiv n).db = s.db := rfl
@[simp] theorem State.setDiv_seg (n : BitVec 8) (s : State) : (s.setDiv n).seg = s.seg := rfl
@[simp] theorem State.setDiv_sel (n : BitVec 8) (s : State) : (s.setDiv n).sel = s.sel := rfl
@[simp] theorem State.setDiv_st (n : BitVec 8) (s : State) : (s.setDiv n).st = s.st := rfl
@[simp] theorem State.setDiv_clock (n : BitVec 8) (s : State) : (s.setDiv n).clock = s.clock := rfl
@[simp] theorem State.setDiv_ds (n : BitVec 8) (s : State) : (s.setDiv n).ds = s.ds := rfl
@[simp] theorem State.setDiv_txi (n : BitVec 8) (s : State) : (s.setDiv n).txi = s.txi := rfl
@[simp] theorem State.setDiv_txlog (n : BitVec 8) (s : State) : (s.setDiv n).txlog = s.txlog := rfl
@[simp] theorem State.setDiv_dispLog (n : BitVec 8) (s : State) : (s.setDiv n).dispLog = s.dispLog := rfl
@[simp] theorem State.setDiv_impl (n : BitVec 8) (s : State) : (s.setDiv n).impl = s.impl := rfl
@[simp] theorem State.setDiv_inputs (n : BitVec 8) (s : State) : (s.setDiv n).inputs = s.inputs := rfl
@[simp] theorem State.setDiv_txReady (n : BitVec 8) (s : State) : (s.setDiv n).txReady = s.txReady := rfl
@[simp] theorem State.setDiv_draws (n : BitVec 8) (s : State) : (s.setDiv n).draws = s.draws := rfl

@[simp] theorem State.setSt_tIF (x : ChronoState) (s : State) : (s.setSt x).tIF = s.tIF := rfl
@[simp] theorem State.setSt_aIF (x : ChronoState) (s : State) : (s.setSt x).aIF = s.aIF := rfl
@[simp] theorem State.setSt_bIF (x : ChronoState) (s : State) : (s.setSt x).bIF = s.bIF := rfl
@[simp] theorem State.setSt_la (x : ChronoState) (s : State) : (s.setSt x).la = s.la := rfl
@[simp] theorem State.setSt_lb (x : ChronoState) (s : State) : (s.setSt x).lb = s.lb := rfl
@[simp] theorem State.setSt_div (x : ChronoState) (s : State) : (s.setSt x).div = s.div := rfl
@[simp] theorem State.setSt_cur (x : ChronoState) (s : State) : (s.setSt x).cur = s.cur := rfl
@[simp] theorem State.setSt_db (x : ChronoState) (s : State) : (s.setSt x).db = s.db := rfl
@[simp] theorem State.setSt_seg (x : ChronoState) (s : State) : (s.setSt x).seg = s.seg := rfl
@[simp] theorem State.setSt_sel (x : ChronoState) (s : State) : (s.setSt x).sel = s.sel := rfl
@[simp] theorem State.setSt_st (x : ChronoState) (s : State) : (s.setSt x).st = x := rfl
@[simp] theorem State.setSt_clock (x : ChronoState) (s : State) : (s.setSt x).clock = s.clock := rfl
@[simp] theorem State.setSt_ds (x : ChronoState) (s : State) : (s.setSt x).ds = s.ds := rfl
@[simp] theorem State.setSt_txi (x : ChronoState) (s : State) : (s.setSt x).txi = s.txi := rfl
@[simp] theorem State.setSt_txlog (x : ChronoState) (s : State) : (s.setSt x).txlog = s.txlog := rfl
@[simp] theorem State.setSt_dispLog (x : ChronoState) (s : State) : (s.setSt x).dispLog = s.dispLog := rfl
@[simp] theorem State.setSt_impl (x : ChronoState) (s : State) : (s.setSt x).impl = s.impl := rfl
@[simp] theorem State.setSt_inputs (x : ChronoState) (s : State) : (s.setSt x).inputs = s.inputs := rfl
@[simp] theorem State.setSt_txReady (x : ChronoState) (s : State) : (s.setSt x).txReady = s.txReady := rfl
@[simp] theorem State.setSt_draws (x : ChronoState) (s : State) : (s.setSt x).draws = s.draws := rfl

@[simp] theorem State.setClock_tIF (c : Clock) (s : State) : (s.setClock c).tIF = s.tIF := rfl
@[simp] theorem State.setClock_aIF (c : Clock) (s : State) : (s.setClock c).aIF = s.aIF := rfl
@[simp] theorem State.setClock_bIF (c : Clock) (s : State) : (s.setClock c).bIF = s.bIF := rfl
@[simp] theorem State.setClock_la (c : Clock) (s : State) : (s.setClock c).la = s.la := rfl
@[simp] theorem State.setClock_lb (c : Clock) (s : State) : (s.setClock c).lb = s.lb := rfl
@[simp] theorem State.setClock_div (c : Clock) (s : State) : (s.setClock c).div = s.div := rfl
@[simp] theorem State.setClock_cur (c : Clock) (s : State) : (s.setClock c).cur = s.cur := rfl
@[simp] theorem State.setClock_db (c : Clock) (s : State) : (s.setClock c).db = s.db := rfl
@[simp] theorem State.setClock_seg (c : Clock) (s : State) : (s.setClock c).seg = s.seg := rfl
@[simp] theorem State.setClock_sel (c : Clock) (s : State) : (s.setClock c).sel = s.sel := rfl
@[simp] theorem State.setClock_st (c : Clock) (s : State) : (s.setClock c).st = s.st := rfl
@[simp] theorem State.setClock_clock (c : Clock) (s : State) : (s.setClock c).clock = c := rfl
@[simp] theorem State.setClock_ds (c : Clock) (s : State) : (s.setClock c).ds = s.ds := rfl
@[simp] theorem State.setClock_txi (c : Clock) (s : State) : (s.setClock c).txi = s.txi := rfl
@[simp] theorem State.setClock_txlog (c : Clock) (s : State) : (s.setClock c).txlog = s.txlog := rfl
@[simp] theorem State.setClock_dispLog (c : Clock) (s : State) : (s.setClock c).dispLog = s.dispLog := rfl
@[simp] theorem State.setClock_impl (c : Clock) (s : State) : (s.setClock c).impl = s.impl := rfl
@[simp] theorem State.setClock_inputs (c : Clock) (s : State) : (s.setClock c).inputs = s.inputs := rfl
@[simp] theorem State.setClock_txReady (c : Clock) (s : State) : (s.setClock c).txReady = s.txReady := rfl
@[simp] theorem State.setClock_draws (c : Clock) (s : State) : (s.setClock c).draws = s.draws := rfl

@[simp] theorem State.setDb_tIF (d : Digits) (s : State) : (s.setDb d).tIF = s.tIF := rfl
@[simp] theorem State.setDb_aIF (d : Digits) (s : State) : (s.setDb d).aIF = s.aIF := rfl
@[simp] theorem State.setDb_bIF (d : Digits) (s : State) : (s.setDb d).bIF = s.bIF := rfl
@[simp] theorem State.setDb_la (d : Digits) (s : State) : (s.setDb d).la = s.la := rfl
@[simp] theorem State.setDb_lb (d : Digits) (s : State) : (s.setDb d).lb = s.lb := rfl
@[simp] theorem State.setDb_div (d : Digits) (s : State) : (s.setDb d).div = s.div := rfl
@[simp] theorem State.setDb_cur (d : Digits) (s : State) : (s.setDb d).cur = s.cur := rfl
@[simp] theorem State.setDb_db (d : Digits) (s : State) : (s.setDb d).db = d := rfl
@[simp] theorem State.setDb_seg (d : Digits) (s : State) : (s.setDb d).seg = s.seg := rfl
@[simp] theorem State.setDb_sel (d : Digits) (s : State) : (s.setDb d).sel = s.sel := rfl
@[simp] theorem State.setDb_st (d : Digits) (s : State) : (s.setDb d).st = s.st := rfl
@[simp] theorem State.setDb_clock (d : Digits) (s : State) : (s.setDb d).clock = s.clock := rfl
@[simp] theorem State.setDb_ds (d : Digits) (s : State) : (s.setDb d).ds = s.ds := rfl
@[simp] theorem State.setDb_txi (d : Digits) (s : State) : (s.setDb d).txi = s.txi := rfl
@[simp] theorem State.setDb_txlog (d : Digits) (s : State) : (s.setDb d).txlog = s.txlog := rfl
@[simp] theorem State.setDb_dispLog (d : Digits) (s : State) : (s.setDb d).dispLog = s.dispLog := rfl
@[simp] theorem State.setDb_impl (d : Digits) (s : State) : (s.setDb d).impl = s.impl := rfl
@[simp] theorem State.setDb_inputs (d : Digits) (s : State) : (s.setDb d).inputs = s.inputs := rfl
@[simp] theorem State.setDb_txReady (d : Digits) (s : State) : (s.setDb d).txReady = s.txReady := rfl
@[simp] theorem State.setDb_draws (d : Digits) (s : State) : (s.setDb d).draws = s.draws := rfl

@[simp] theorem State.setInputs_tIF (l : List Input) (s : State) : (s.setInputs l).tIF = s.tIF := rfl
@[simp] theorem State.setInputs_aIF (l : List Input) (s : State) : (s.setInputs l).aIF = s.aIF := rfl
@[simp] theorem State.setInputs_bIF (l : List Input) (s : State) : (s.setInputs l).bIF = s.bIF := rfl
@[simp] theorem State.setInputs_la (l : List Input) (s : State) : (s.setInputs l).la = s.la := rfl
@[simp] theorem State.setInputs_lb (l : List Input) (s : State) : (s.setInputs l).lb = s.lb := rfl
@[simp] theorem State.setInputs_div (l : List Input) (s : State) : (s.setInputs l).div = s.div := rfl
@[simp] theorem State.setInputs_cur (l : List Input) (s : State) : (s.setInputs l).cur = s.cur := rfl
@[simp] theorem State.setInputs_db (l : List Input) (s : State) : (s.setInputs l).db = s.db := rfl
@[simp] theorem State.setInputs_seg (l : List Input) (s : State) : (s.setInputs l).seg = s.seg := rfl
@[simp] theorem State.setInputs_sel (l : List Input) (s : State) : (s.setInputs l).sel = s.sel := rfl
@[simp] theorem State.setInputs_st (l : List Input) (s : State) : (s.setInputs l).st = s.st := rfl
@[simp] theorem State.setInputs_clock (l : List Input) (s : State) : (s.setInputs l).clock = s.clock := rfl
@[simp] theorem State.setInputs_ds (l : List Input) (s : State) : (s.setInputs l).ds = s.ds := rfl
@[simp] theorem State.setInputs_txi (l : List Input) (s : State) : (s.setInputs l).txi = s.txi := rfl
@[simp] theorem State.setInputs_txlog (l : List Input) (s : State) : (s.setInputs l).txlog = s.txlog := rfl
@[simp] theorem State.setInputs_dispLog (l : List Input) (s : State) : (s.setInputs l).dispLog = s.dispLog := rfl
@[simp] theorem State.setInputs_impl (l : List Input) (s : State) : (s.setInputs l).impl = s.impl := rfl
@[simp] theorem State.setInputs_inputs (l : List Input) (s : State) : (s.setInputs l).inputs = l := rfl
@[simp] theorem State.setInputs_txReady (l : List Input) (s : State) : (s.setInputs l).txReady = s.txReady := rfl
@[simp] theorem State.setInputs_draws (l : List Input) (s : State) : (s.setInputs l).draws = s.draws := rfl

@[simp] theorem State.setReady_tIF (r : Bool) (s : State) : (s.setReady r).tIF = s.tIF := rfl
@[simp] theorem State.setReady_aIF (r : Bool) (s : State) : (s.setReady r).aIF = s.aIF := rfl
@[simp] theorem State.setReady_bIF (r : Bool) (s : State) : (s.setReady r).bIF = s.bIF := rfl
@[simp] theorem State.setReady_la (r : Bool) (s : State) : (s.setReady r).la = s.la := rfl
@[simp] theorem State.setReady_lb (r : Bool) (s : State) : (s.setReady r).lb = s.lb := rfl
@[simp] theorem State.setReady_div (r : Bool) (s : State) : (s.setReady r).div = s.div := rfl
@[simp] theorem State.setReady_cur (r : Bool) (s : State) : (s.setReady r).cur = s.cur := rfl
@[simp] theorem State.setReady_db (r : Bool) (s : State) : (s.setReady r).db = s.db := rfl
@[simp] theorem State.setReady_seg (r : Bool) (s : State) : (s.setReady r).seg = s.seg := rfl
@[simp] theorem State.setReady_sel (r : Bool) (s : State) : (s.setReady r).sel = s.sel := rfl
@[simp] theorem State.setReady_st (r : Bool) (s : State) : (s.setReady r).st = s.st := rfl
@[simp] theorem State.setReady_clock (r : Bool) (s : State) : (s.setReady r).clock = s.clock := rfl
@[simp] theorem State.setReady_ds (r : Bool) (s : State) : (s.setReady r).ds = s.ds := rfl
@[simp] theorem State.setReady_txi (r : Bool) (s : State) : (s.setReady r).txi = s.txi := rfl
@[simp] theorem State.setReady_txlog (r : Bool) (s : State) : (s.setReady r).txlog = s.txlog := rfl
@[simp] theorem State.setReady_dispLog (r : Bool) (s : State) : (s.setReady r).dispLog = s.dispLog := rfl
@[simp] theorem State.setReady_impl (r : Bool) (s : State) : (s.setReady r).impl = s.impl := rfl
@[simp] theorem State.setReady_inputs (r : Bool) (s : State) : (s.setReady r).inputs = s.inputs := rfl
@[simp] theorem State.setReady_txReady (r : Bool) (s : State) : (s.setReady r).txReady = r := rfl
@[simp] theorem State.setReady_draws (r : Bool) (s : State) : (s.setReady r).draws = s.draws := rfl

@[simp] theorem State.drawReady_tIF (s : State) : s.drawReady.tIF = s.tIF := rfl
@[simp] theorem State.drawReady_aIF (s : State) : s.drawReady.aIF = s.aIF := rfl
@[simp] theorem State.drawReady_bIF (s : State) : s.drawReady.bIF = s.bIF := rfl
@[simp] theorem State.drawReady_la (s : State) : s.drawReady.la = s.la := rfl
@[simp] theorem State.drawReady_lb (s : State) : s.drawReady.lb = s.lb := rfl
@[simp] theorem State.drawReady_div (s : State) : s.drawReady.div = s.div := rfl
@[simp] theorem State.drawReady_cur (s : State) : s.drawReady.cur = s.cur := rfl
@[simp] theorem State.drawReady_db (s : State) : s.drawReady.db = s.db := rfl
@[simp] theorem State.drawReady_seg (s : State) : s.drawReady.seg = s.seg := rfl
@[simp] theorem State.drawReady_sel (s : State) : s.drawReady.sel = s.sel := rfl
@[simp] theorem State.drawReady_st (s : State) : s.drawReady.st = s.st := rfl
@[simp] theorem State.drawReady_clock (s : State) : s.drawReady.clock = s.clock := rfl
@[simp] theorem State.drawReady_ds (s : State) : s.drawReady.ds = s.ds := rfl
@[simp] theorem State.drawReady_txi (s : State) : s.drawReady.txi = s.txi := rfl
@[simp] theorem State.drawReady_txlog (s : State) : s.drawReady.txlog = s.txlog := rfl
@[simp] theorem State.drawReady_dispLog (s : State) : s.drawReady.dispLog = s.dispLog := rfl
@[simp] theorem State.drawReady_impl (s : State) : s.drawReady.impl = s.impl := rfl
@[simp] theorem State.drawReady_inputs (s : State) : s.drawReady.inputs = s.inputs := rfl
@[simp] theorem State.drawReady_txReady (s : State) : s.drawReady.txReady = Config.sinkReady s.draws := rfl
@[simp] theorem State.drawReady_draws (s : State) : s.drawReady.draws = s.draws + 1 := rfl

@[simp] theorem State.setImpl_tIF (m : Impl) (s : State) : (s.setImpl m).tIF = s.tIF := rfl
@[simp] theorem State.setImpl_aIF (m : Impl) (s : State) : (s.setImpl m).aIF = s.aIF := rfl
@[simp] theorem State.setImpl_bIF (m : Impl) (s : State) : (s.setImpl m).bIF = s.bIF := rfl
@[simp] theorem State.setImpl_la (m : Impl) (s : State) : (s.setImpl m).la = s.la := rfl
@[simp] theorem State.setImpl_lb (m : Impl) (s : State) : (s.setImpl m).lb = s.lb := rfl
@[simp] theorem State.setImpl_div (m : Impl) (s : State) : (s.setImpl m).div = s.div := rfl
@[simp] theorem State.setImpl_cur (m : Impl) (s : State) : (s.setImpl m).cur = s.cur := rfl
@[simp] theorem State.setImpl_db (m : Impl) (s : State) : (s.setImpl m).db = s.db := rfl
@[simp] theorem State.setImpl_seg (m : Impl) (s : State) : (s.setImpl m).seg = s.seg := rfl
@[simp] theorem State.setImpl_sel (m : Impl) (s : State) : (s.setImpl m).sel = s.sel := rfl
@[simp] theorem State.setImpl_st (m : Impl) (s : State) : (s.setImpl m).st = s.st := rfl
@[simp] theorem State.setImpl_clock (m : Impl) (s : State) : (s.setImpl m).clock = s.clock := rfl
@[simp] theorem State.setImpl_ds (m : Impl) (s : State) : (s.setImpl m).ds = s.ds := rfl
@[simp] theorem State.setImpl_txi (m : Impl) (s : State) : (s.setImpl m).txi = s.txi := rfl
@[simp] theorem State.setImpl_txlog (m : Impl) (s : State) : (s.setImpl m).txlog = s.txlog := rfl
@[simp] theorem State.setImpl_dispLog (m : Impl) (s : State) : (s.setImpl m).dispLog = s.dispLog := rfl
@[simp] theorem State.setImpl_impl (m : Impl) (s : State) : (s.setImpl m).impl = m := rfl
@[simp] theorem State.setImpl_inputs (m : Impl) (s : State) : (s.setImpl m).inputs = s.inputs := rfl
@[simp] theorem State.setImpl_txReady (m : Impl) (s : State) : (s.setImpl m).txReady = s.txReady := rfl
@[simp] theorem State.setImpl_draws (m : Impl) (s : State) : (s.setImpl m).draws = s.draws := rfl

@[simp] theorem State.resetRegs_tIF (s : State) : s.resetRegs.tIF = false := rfl
@[simp] theorem State.resetRegs_aIF (s : State) : s.resetRegs.aIF = false := rfl
@[simp] theorem State.resetRegs_bIF (s : State) : s.resetRegs.bIF = false := rfl
@[simp] theorem State.resetRegs_la (s : State) : s.resetRegs.la = false := rfl
@[simp] theorem State.resetRegs_lb (s : State) : s.resetRegs.lb = false := rfl
@[simp] theorem State.resetRegs_div (s : State) : s.resetRegs.div = 0 := rfl
@[simp] theorem State.resetRegs_cur (s : State) : s.resetRegs.cur = 0 := rfl
@[simp] theorem State.resetRegs_db (s : State) : s.resetRegs.db = ⟨0, 0, 0, 0, 0, 0⟩ := rfl
@[simp] theorem State.resetRegs_seg (s : State) : s.resetRegs.seg = 0 := rfl
@[simp] theorem State.resetRegs_sel (s : State) : s.resetRegs.sel = 0 := rfl
@[simp] theorem State.resetRegs_st (s : State) : s.resetRegs.st = .stopped := rfl
@[simp] theorem State.resetRegs_clock (s : State) : s.resetRegs.clock = ⟨0, 0, 0⟩ := rfl
@[simp] theorem State.resetRegs_ds (s : State) : s.resetRegs.ds = .idle := rfl
@[simp] theorem State.resetRegs_txi (s : State) : s.resetRegs.txi = 0 := rfl
@[simp] theorem State.resetRegs_txlog (s : State) : s.resetRegs.txlog = s.txlog := rfl
@[simp] theorem State.resetRegs_dispLog (s : State) : s.resetRegs.dispLog = s.dispLog := rfl
@[simp] theorem State.resetRegs_impl (s : State) : s.resetRegs.impl = ⟨0, false, false, false, false⟩ := rfl
@[simp] theorem State.resetRegs_inputs (s : State) : s.resetRegs.inputs = s.inputs := rfl
@[simp] theorem State.resetRegs_txReady (s : State) : s.resetRegs.txReady = s.txReady := rfl
@[simp] theorem State.resetRegs_draws (s : State) : s.resetRegs.draws = s.draws := rfl

@[simp] theorem ovf_tIF (s : State) : (ovf s).tIF = true := rfl
@[simp] theorem ovf_aIF (s : State) : (ovf s).aIF = s.aIF := rfl
@[simp] theorem ovf_bIF (s : State) : (ovf s).bIF = s.bIF := rfl
@[simp] theorem ovf_la (s : State) : (ovf s).la = s.la := rfl
@[simp] theorem ovf_lb (s : State) : (ovf s).lb = s.lb := rfl
@[simp] theorem ovf_div (s : State) : (ovf s).div = s.div := rfl
@[simp] theorem ovf_cur (s : State) : (ovf s).cur = s.cur := rfl
@[simp] theorem ovf_db (s : State) : (ovf s).db = s.db := rfl
@[simp] theorem ovf_seg (s : State) : (ovf s).seg = s.seg := rfl
@[simp] theorem ovf_sel (s : State) : (ovf s).sel = s.sel := rfl
@[simp] theorem ovf_st (s : State) : (ovf s).st = s.st := rfl
@[simp] theorem ovf_clock (s : State) : (ovf s).clock = s.clock := rfl
@[simp] theorem ovf_ds (s : State) : (ovf s).ds = s.ds := rfl
@[simp] theorem ovf_txi (s : State) : (ovf s).txi = s.txi := rfl
@[simp] theorem ovf_txlog (s : State) : (ovf s).txlog = s.txlog := rfl
@[simp] theorem ovf_dispLog (s : State) : (ovf s).dispLog = s.dispLog := rfl
@[simp] theorem ovf_impl (s : State) : (ovf s).impl = s.impl := rfl
@[simp] theorem ovf_inputs (s : State) : (ovf s).inputs = s.inputs := rfl
@[simp] theorem ovf_txReady (s : State) : (ovf s).txReady = s.txReady := rfl
@[simp] theorem ovf_draws (s : State) : (ovf s).draws = s.draws := rfl

@[simp] theorem sampleA_tIF (v : Bool) (s : State) : (sampleA v s).tIF = s.tIF := rfl
@[simp] theorem sampleA_aIF (v : Bool) (s : State) : (sampleA v s).aIF = (s.aIF || fallingEdge s.la v) := rfl
@[simp] theorem sampleA_bIF (v : Bool) (s : State) : (sampleA v s).bIF = s.bIF := rfl
@[simp] theorem sampleA_la (v : Bool) (s : State) : (sampleA v s).la = v := rfl
@[simp] theorem sampleA_lb (v : Bool) (s : State) : (sampleA v s).lb = s.lb := rfl
@[simp] theorem sampleA_div (v : Bool) (s : State) : (sampleA v s).div = s.div := rfl
@[simp] theorem sampleA_cur (v : Bool) (s : State) : (sampleA v s).cur = s.cur := rfl
@[simp] theorem sampleA_db (v : Bool) (s : State) : (sampleA v s).db = s.db := rfl
@[simp] theorem sampleA_seg (v : Bool) (s : State) : (sampleA v s).seg = s.seg := rfl
@[simp] theorem sampleA_sel (v : Bool) (s : State) : (sampleA v s).sel = s.sel := rfl
@[simp] theorem sampleA_st (v : Bool) (s : State) : (sampleA v s).st = s.st := rfl
@[simp] theorem sampleA_clock (v : Bool) (s : State) : (sampleA v s).clock = s.clock := rfl
@[simp] theorem sampleA_ds (v : Bool) (s : State) : (sampleA v s).ds = s.ds := rfl
@[simp] theorem sampleA_txi (v : Bool) (s : State) : (sampleA v s).txi = s.txi := rfl
@[simp] theorem sampleA_txlog (v : Bool) (s : State) : (sampleA v s).txlog = s.txlog := rfl
@[simp] theorem sampleA_dispLog (v : Bool) (s : State) : (sampleA v s).dispLog = s.dispLog := rfl
@[simp] theorem sampleA_impl (v : Bool) (s : State) : (sampleA v s).impl = s.impl := rfl
@[simp] theorem sampleA_inputs (v : Bool) (s : State) : (sampleA v s).inputs = s.inputs := rfl
@[simp] theorem sampleA_txReady (v : Bool) (s : State) : (sampleA v s).txReady = s.txReady := rfl
@[simp] theorem sampleA_draws (v : Bool) (s : State) : (sampleA v s).draws = s.draws := rfl

@[simp] theorem sampleB_tIF (v : Bool) (s : State) : (sampleB v s).tIF = s.tIF := rfl
@[simp] theorem sampleB_aIF (v : Bool) (s : State) : (sampleB v s).aIF = s.aIF := rfl
@[simp] theorem sampleB_bIF (v : Bool) (s : State) : (sampleB v s).bIF = (s.bIF || fallingEdge s.lb v) := rfl
@[simp] theorem sampleB_la (v : Bool) (s : State) : (sampleB v s).la = s.la := rfl
@[simp] theorem sampleB_lb (v : Bool) (s : State) : (sampleB v s).lb = v := rfl
@[simp] theorem sampleB_div (v : Bool) (s : State) : (sampleB v s).div = s.div := rfl
@[simp] theorem sampleB_cur (v : Bool) (s : State) : (sampleB v s).cur = s.cur := rfl
@[simp] theorem sampleB_db (v : Bool) (s : State) : (sampleB v s).db = s.db := rfl
@[simp] theorem sampleB_seg (v : Bool) (s : State) : (sampleB v s).seg = s.seg := rfl
@[simp] theorem sampleB_sel (v : Bool) (s : State) : (sampleB v s).sel = s.sel := rfl
@[simp] theorem sampleB_st (v : Bool) (s : State) : (sampleB v s).st = s.st := rfl
@[simp] theorem sampleB_clock (v : Bool) (s : State) : (sampleB v s).clock = s.clock := rfl
@[simp] theorem sampleB_ds (v : Bool) (s : State) : (sampleB v s).ds = s.ds := rfl
@[simp] theorem sampleB_txi (v : Bool) (s : State) : (sampleB v s).txi = s.txi := rfl
@[simp] theorem sampleB_txlog (v : Bool) (s : State) : (sampleB v s).txlog = s.txlog := rfl
@[simp] theorem sampleB_dispLog (v : Bool) (s : State) : (sampleB v s).dispLog = s.dispLog := rfl
@[simp] theorem sampleB_impl (v : Bool) (s : State) : (sampleB v s).impl = s.impl := rfl
@[simp] theorem sampleB_inputs (v : Bool) (s : State) : (sampleB v s).inputs = s.inputs := rfl
@[simp] theorem sampleB_txReady (v : Bool) (s : State) : (sampleB v s).txReady = s.txReady := rfl
@[simp] theorem sampleB_draws (v : Bool) (s : State) : (sampleB v s).draws = s.draws := rfl

@[simp] theorem format_tIF (s : State) : (format s).tIF = s.tIF := rfl
@[simp] theorem format_aIF (s : State) : (format s).aIF = s.aIF := rfl
@[simp] theorem format_bIF (s : State) : (format s).bIF = s.bIF := rfl
@[simp] theorem format_la (s : State) : (format s).la = s.la := rfl
@[simp] theorem format_lb (s : State) : (format s).lb = s.lb := rfl
@[simp] theorem format_div (s : State) : (format s).div = s.div := rfl
@[simp] theorem format_cur (s : State) : (format s).cur = s.cur := rfl
@[simp] theorem format_db (s : State) : (format s).db = formatOf s.clock := rfl
@[simp] theorem format_seg (s : State) : (format s).seg = s.seg := rfl
@[simp] theorem format_sel (s : State) : (format s).sel = s.sel := rfl
@[simp] theorem format_st (s : State) : (format s).st = s.st := rfl
@[simp] theorem format_clock (s : State) : (format s).clock = s.clock := rfl
@[simp] theorem format_ds (s : State) : (format s).ds = s.ds := rfl
@[simp] theorem format_txi (s : State) : (format s).txi = s.txi := rfl
@[simp] theorem format_txlog (s : State) : (format s).txlog = s.txlog := rfl
@[simp] theorem format_dispLog (s : State) : (format s).dispLog = s.dispLog := rfl
@[simp] theorem format_impl (s : State) : (format s).impl = s.impl := rfl
@[simp] theorem format_inputs (s : State) : (format s).inputs = s.inputs := rfl
@[simp] theorem format_txReady (s : State) : (format s).txReady = s.txReady := rfl
@[simp] theorem format_draws (s : State) : (format s).draws = s.draws := rfl

@[simp] theorem clkReset_tIF (s : State) : (clkReset s).tIF = s.tIF := rfl
@[simp] theorem clkReset_aIF (s : State) : (clkReset s).aIF = s.aIF := rfl
@[simp] theorem clkReset_bIF (s : State) : (clkReset s).bIF = s.bIF := rfl
@[simp] theorem clkReset_la (s : State) : (clkReset s).la = s.la := rfl
@[simp] theorem clkReset_lb (s : State) : (clkReset s).lb = s.lb := rfl
@[simp] theorem clkReset_div (s : State) : (clkReset s).div = s.div := rfl
@[simp] theorem clkReset_cur (s : State) : (clkReset s).cur = s.cur := rfl
@[simp] theorem clkReset_db (s : State) : (clkReset s).db = ⟨0, 0, 0, 0, 0, 0⟩ := by
  show formatOf ⟨0, 0, 0⟩ = _; decide
@[simp] theorem clkReset_seg (s : State) : (clkReset s).seg = s.seg := rfl
@[simp] theorem clkReset_sel (s : State) : (clkReset s).sel = s.sel := rfl
@[simp] theorem clkReset_st (s : State) : (clkReset s).st = s.st := rfl
@[simp] theorem clkReset_clock (s : State) : (clkReset s).clock = ⟨0, 0, 0⟩ := rfl
@[simp] theorem clkReset_ds (s : State) : (clkReset s).ds = s.ds := rfl
@[simp] theorem clkReset_txi (s : State) : (clkReset s).txi = s.txi := rfl
@[simp] theorem clkReset_txlog (s : State) : (clkReset s).txlog = s.txlog := rfl
@[simp] theorem clkReset_dispLog (s : State) : (clkReset s).dispLog = s.dispLog := rfl
@[simp] theorem clkReset_impl (s : State) : (clkReset s).impl = s.impl := rfl
@[simp] theorem clkReset_inputs (s : State) : (clkReset s).inputs = s.inputs := rfl
@[simp] theorem clkReset_txReady (s : State) : (clkReset s).txReady = s.txReady := rfl
@[simp] theorem clkReset_draws (s : State) : (clkReset s).draws = s.draws := rfl

@[simp] theorem State.takeInterrupt_tIF (src : Source) (s : State) :
    (s.takeInterrupt src).tIF = (s.tIF && src != .tick) := by cases src <;> simp [State.takeInterrupt]
@[simp] theorem State.takeInterrupt_aIF (src : Source) (s : State) :
    (s.takeInterrupt src).aIF = (s.aIF && src != .edgeA) := by cases src <;> simp [State.takeInterrupt]
@[simp] theorem State.takeInterrupt_bIF (src : Source) (s : State) :
    (s.takeInterrupt src).bIF = (s.bIF && src != .edgeB) := by cases src <;> simp [State.takeInterrupt]
@[simp] theorem State.takeInterrupt_la (src : Source) (s : State) : (s.takeInterrupt src).la = s.la := by cases src <;> rfl
@[simp] theorem State.takeInterrupt_lb (src : Source) (s : State) : (s.takeInterrupt src).lb = s.lb := by cases src <;> rfl
@[simp] theorem State.takeInterrupt_div (src : Source) (s : State) : (s.takeInterrupt src).div = s.div := by cases src <;> rfl
@[simp] theorem State.takeInterrupt_cur (src : Source) (s : State) : (s.takeInterrupt src).cur = s.cur := by cases src <;> rfl
@[simp] theorem State.takeInterrupt_db (src : Source) (s : State) : (s.takeInterrupt src).db = s.db := by cases src <;> rfl
@[simp] theorem State.takeInterrupt_seg (src : Source) (s : State) : (s.takeInterrupt src).seg = s.seg := by cases src <;> rfl
@[simp] theorem State.takeInterrupt_sel (src : Source) (s : State) : (s.takeInterrupt src).sel = s.sel := by cases src <;> rfl
@[simp] theorem State.takeInterrupt_st (src : Source) (s : State) : (s.takeInterrupt src).st = s.st := by cases src <;> rfl
@[simp] theorem State.takeInterrupt_clock (src : Source) (s : State) : (s.takeInterrupt src).clock = s.clock := by cases src <;> rfl
@[simp] theorem State.takeInterrupt_ds (src : Source) (s : State) : (s.takeInterrupt src).ds = s.ds := by cases src <;> rfl
@[simp] theorem State.takeInterrupt_txi (src : Source) (s : State) : (s.takeInterrupt src).txi = s.txi := by cases src <;> rfl
@[simp] theorem State.takeInterrupt_txlog (src : Source) (s : State) : (s.takeInterrupt src).txlog = s.txlog := by cases src <;> rfl
@[simp] theorem State.takeInterrupt_dispLog (src : Source) (s : State) : (s.takeInterrupt src).dispLog = s.dispLog := by cases src <;> rfl
@[simp] theorem State.takeInterrupt_impl (src : Source) (s : State) : (s.takeInterrupt src).impl = s.impl := by cases src <;> rfl
@[simp] theorem State.takeInterrupt_inputs (src : Source) (s : State) : (s.takeInterrupt src).inputs = s.inputs := by cases src <;> rfl
@[simp] theorem State.takeInterrupt_txReady (src : Source) (s : State) : (s.takeInterrupt src).txReady = s.txReady := by cases src <;> rfl
@[simp] theorem State.takeInterrupt_draws (src : Source) (s : State) : (s.takeInterrupt src).draws = s.draws := by cases src <;> rfl

end Sys2Proof.Machine
end

