-- ==== Sys2Proof/Laws/Operands.lean ====
section
/-!
SUPPORT. What the operand forms answer: the indexed spaces, the digits of the Clock, the decoded words.
-/
namespace Sys2Proof.Machine

open Sys2Proof.Safety

theorem digits_get?_isSome {d : Digits} {i : Nat} (h : i < 6) : ∃ x, d.get? i = some x := by
  match i, h with
  | 0, _ => exact ⟨_, rfl⟩
  | 1, _ => exact ⟨_, rfl⟩
  | 2, _ => exact ⟨_, rfl⟩
  | 3, _ => exact ⟨_, rfl⟩
  | 4, _ => exact ⟨_, rfl⟩
  | 5, _ => exact ⟨_, rfl⟩

theorem digits_get?_le {d : Digits} (hd : DigitsOk d) {i : Nat} {x : Digit} (h : d.get? i = some x) :
    x.toNat ≤ 9 := by
  obtain ⟨h0, h1, h2, h3, h4, h5⟩ := hd
  match i, h with
  | 0, h => cases h; exact h0
  | 1, h => cases h; exact h1
  | 2, h => cases h; exact h2
  | 3, h => cases h; exact h3
  | 4, h => cases h; exact h4
  | 5, h => cases h; exact h5

/-- Whatever the table, exactly the decimal digits have a pattern. -/
theorem segLookup_isSome_iff (tbl : SegTable) (d : Digit) : (segLookup tbl d).isSome = true ↔ d.toNat ≤ 9 := by
  simp only [segLookup, isSome_getElem?]; omega

theorem segLookup_of_le (tbl : SegTable) {d : Digit} (h : d.toNat ≤ 9) : ∃ p, segLookup tbl d = some p :=
  Option.isSome_iff_exists.mp ((segLookup_isSome_iff tbl d).mpr h)

theorem segTable_isSome_iff (d : Digit) : (segTable d).isSome = true ↔ d.toNat ≤ 9 :=
  segLookup_isSome_iff segReference d

theorem segTable_of_le {d : Digit} (h : d.toNat ≤ 9) : ∃ p, segTable d = some p := segLookup_of_le segReference h

theorem tens_toNat {x : Nat} (h : x < 100) : (tens x).toNat = x / 10 := by
  simp only [tens, BitVec.toNat_ofNat]; omega

theorem ones_toNat (x : Nat) : (ones x).toNat = x % 10 := by
  simp only [ones, BitVec.toNat_ofNat]; omega

/-- Whatever the counters hold, the buffer's elements are digits: no counter reaches 100 (41_clock.md R124). -/
theorem formatOf_digitsOk (c : Clock) : DigitsOk (formatOf c) := by
  have h1 := c.hh.isLt; have h2 := c.mm.isLt; have h3 := c.ss.isLt
  simp only [DigitsOk, formatOf]
  rw [tens_toNat (by omega), tens_toNat (by omega), tens_toNat (by omega), ones_toNat, ones_toNat, ones_toNat]
  omega

/-- The reset Clock's digits are all zero (10_state.md R42). -/
@[simp] theorem formatOf_zero : formatOf ⟨0#4, 0#6, 0#6⟩ = ⟨0#4, 0#4, 0#4, 0#4, 0#4, 0#4⟩ := by decide

theorem nextSlot_toNat {p : Nat} : (nextSlot 6 p).toNat = (p + 1) % 6 := by
  simp only [nextSlot, Config.digitsPerTick, BitVec.toNat_ofNat]; omega

/-- The dispatcher word as a number (30_encoding.md R81). -/
theorem dword_toNat (s : State) :
    (dword s).toNat = s.ds.code.toNat * 8 + s.bIF.toNat * 4 + s.aIF.toNat * 2 + s.tIF.toNat := by
  simp only [dword]
  cases s.ds <;> cases s.bIF <;> cases s.aIF <;> cases s.tIF <;> rfl

@[simp] theorem dword_setInputs (l : List Input) (s : State) : dword (s.setInputs l) = dword s := rfl

@[simp] theorem dword_setReady (r : Bool) (s : State) : dword (s.setReady r) = dword s := rfl

@[simp] theorem dword_drawReady (s : State) : dword s.drawReady = dword s := rfl

end Sys2Proof.Machine
end

