-- ==== Sys2Proof/Laws/Ops.lean ====
section
/-!
SUPPORT. For each shared operation, everything it can do: when it answers a state, and which.
-/
namespace Sys2Proof.Machine

open Sys2Proof.Safety

@[simp] theorem finish_ok (s : State) : finish (.ok s) = .next s := rfl

@[simp] theorem finish_error (e : Fault) : finish (.error e) = .fault e := rfl

theorem finish_next_iff {r : Except Fault State} {t : State} : finish r = .next t ↔ r = .ok t := by
  cases r <;> simp [finish]

/-- `REFRESH` in full, with any segment table: it answers exactly in the states whose cursor is a scan position with a
digit in it. -/
theorem refreshWith_six_ok_iff {tbl : SegTable} {s t : State} :
    refreshWith tbl 6 s = .ok t ↔ ∃ d p, s.cur.toNat < 6 ∧ s.db.get? s.cur.toNat = some d ∧
      segLookup tbl d = some p ∧ t = s.showDigit p (selectorOf s.cur.toNat) (nextSlot 6 s.cur.toNat) := by
  by_cases hc : s.cur.toNat < 6
  · obtain ⟨d, hd⟩ := digits_get?_isSome (d := s.db) hc
    cases hp : segLookup tbl d with
    | none => simp [refreshWith, hc, hd, hp]
    | some p =>
      simp only [refreshWith, hc, hd, hp, if_true]
      constructor
      · intro h; cases h; exact ⟨d, p, trivial, rfl, hp, rfl⟩
      · rintro ⟨d', p', -, h1, h2, rfl⟩; cases h1; rw [hp] at h2; cases h2; rfl
  · simp [refreshWith, hc]

/-- `REFRESH` in full, at the reference table. -/
theorem refresh_ok_iff {s t : State} :
    refresh s = .ok t ↔ ∃ d p, s.cur.toNat < 6 ∧ s.db.get? s.cur.toNat = some d ∧ segTable d = some p ∧
      t = s.showDigit p (selectorOf s.cur.toNat) (nextSlot 6 s.cur.toNat) := refreshWith_six_ok_iff

/-- `ADVANCE` in full. -/
theorem advance_ok_iff {m : RolloverMode} {s t : State} :
    advance m s = .ok t ↔ s.clock.InRange m ∧ t = format (s.setClock (advanceClock m s.clock)) := by
  simp only [advance]
  by_cases h : s.clock.InRange m
  · rw [if_pos h, Except.ok.injEq, eq_comm, and_iff_right h]
  · rw [if_neg h]; exact ⟨fun h' => (by cases h'), fun h' => absurd h'.1 h⟩

/-- `LAPSTART` in full. -/
theorem lapStart_ok_iff {s t : State} : lapStart s = .ok t ↔ s.ds = .idle ∧ s.txi = 0 ∧ t = s.enterEmit := by
  cases hd : s.ds with
  | emit => simp [lapStart, hd]
  | idle =>
    simp only [lapStart, hd]
    by_cases h : s.txi = 0
    · rw [if_pos h, Except.ok.injEq, @eq_comm _ t]; simp [h]
    · rw [if_neg h]; exact ⟨fun h' => (by cases h'), fun h' => absurd h'.2.1 h⟩

/-- What a transition of the chronometer machine leaves, by state and event (40_chronometer_fsm.md R100). -/
theorem handle_ok_iff {ev : Event} {s t : State} :
    handle ev s = .ok t ↔ s.ds = .idle ∧
      match s.st, ev with
      | .stopped, .toggle => t = s.setSt .running
      | .stopped, .lapReset => t = clkReset s
      | .stopped, .second => t = s
      | .running, .toggle => t = s.setSt .stopped
      | .running, .lapReset => s.txi = 0 ∧ t = s.enterEmit
      | .running, .second => s.clock.InRange Config.rolloverMode ∧
          t = format (s.setClock (advanceClock Config.rolloverMode s.clock)) := by
  cases hd : s.ds with
  | emit => simp [handle, hd]
  | idle =>
    cases hs : s.st <;> cases ev <;>
      simp [handle, hd, hs, hsToggle, hsLapreset, hsSecond, hrToggle, hrLapreset, hrSecond, advance_ok_iff,
        lapStart_ok_iff, @eq_comm _ t]

/-- `DIVSTEP` in full. -/
theorem divStep_ok_iff {s t : State} :
    divStep s = .ok t ↔ (s.div.toNat < 149 ∧ t = s.setDiv (s.div + 1)) ∨
      (s.div.toNat = 149 ∧ handle .second (s.setDiv 0) = .ok t) := by
  have hc : Config.ticksPerSecond = 150 := rfl
  simp only [divStep, eventOf, hc]
  by_cases h1 : s.div.toNat < 149
  · rw [if_pos (by omega), if_neg (by omega)]; simp [h1, @eq_comm _ t]; omega
  · by_cases h2 : s.div.toNat = 149
    · rw [if_pos (by omega), if_pos (by omega)]; simp [h2]
    · rw [if_neg (by omega)]; simp [h1, h2]

/-- `TXB`'s byte in full. -/
theorem txByte_ok_iff {s t : State} :
    txByte s = .ok t ↔ ∃ b, lapByte s.db s.txi.toNat = .ok b ∧
      ((s.txi.toNat = 12 ∧ t = (s.sendByte b).handlerReturn) ∨ (s.txi.toNat ≠ 12 ∧ t = (s.sendByte b).nextByte)) := by
  simp only [txByte]
  cases hb : lapByte s.db s.txi.toNat with
  | error e => simp
  | ok b => by_cases h : s.txi.toNat = 12 <;> simp [h, @eq_comm _ t]

/-- The tick service in full: a display step, then the divider, on the state whose flag is cleared. -/
theorem execSvcTick_next_iff {s t : State} :
    execSvcTick s = .next t ↔ ∃ u, refresh (s.takeInterrupt .tick) = .ok u ∧ divStep u = .ok t := by
  simp only [execSvcTick, finish_next_iff, tickService]
  cases refresh (s.takeInterrupt .tick) <;> simp

/-- `TXB` in full: the byte if the sink is ready, nothing if it is not. -/
theorem execTxb_next_iff {s t : State} :
    execTxb s = .next t ↔ (s.txReady = true ∧ txByte s = .ok t) ∨ (s.txReady = false ∧ t = s) := by
  cases h : s.txReady <;> simp [execTxb, h, finish_next_iff, @eq_comm _ t]

/-- Everything an operation can do when it answers a next state, one case per row of the opcode table. -/
theorem exec_next_iff {i : Instr} {s t : State} :
    exec i s = .next t ↔
      match i with
      | .wait => t = s
      | .svcTick => ∃ u, refresh (s.takeInterrupt .tick) = .ok u ∧ divStep u = .ok t
      | .svcEdgeA => handle .toggle (s.takeInterrupt .edgeA) = .ok t
      | .svcEdgeB => handle .lapReset (s.takeInterrupt .edgeB) = .ok t
      | .txb => (s.txReady = true ∧ txByte s = .ok t) ∨ (s.txReady = false ∧ t = s)
      | .hsToggle => t = s.setSt .running
      | .hsLapreset => t = clkReset s
      | .hsSecond => t = s
      | .hrToggle => t = s.setSt .stopped
      | .hrLapreset => s.ds = .idle ∧ s.txi = 0 ∧ t = s.enterEmit
      | .hrSecond => s.clock.InRange Config.rolloverMode ∧
          t = format (s.setClock (advanceClock Config.rolloverMode s.clock))
      | .hRsvd => False := by
  cases i
  case svcTick => exact execSvcTick_next_iff
  case svcEdgeA => simp [exec, execSvcEdgeA, edgeService, eventOf, finish_next_iff]
  case svcEdgeB => simp [exec, execSvcEdgeB, edgeService, eventOf, finish_next_iff]
  case txb => exact execTxb_next_iff
  case hrLapreset => simp [exec, execHrLapreset, hrLapreset, finish_next_iff, lapStart_ok_iff]
  case hrSecond => simp [exec, execHrSecond, hrSecond, finish_next_iff, advance_ok_iff]
  all_goals
    simp [exec, execWait, execHsToggle, execHsLapreset, execHsSecond, execHrToggle, execHRsvd, hsToggle, hsLapreset,
      hsSecond, hrToggle, @eq_comm _ t]

end Sys2Proof.Machine
end

