-- ==== Sys2Proof/Laws/PerInstr.lean ====
section
/-!
SUPPORT. Facts about every operation as syntax, one lemma per constructor.
-/
namespace Sys2Proof.Laws.RowWord

/-- The word of an operation's row fits its format, lies inside its own mask, and the row is the operation's. -/
def Statement (i : Instr) : Prop :=
  i.row.op = i ∧ i.row.pattern < 2 ^ i.row.format.width ∧ i.row.mask < 2 ^ i.row.format.width ∧
    i.row.pattern &&& i.row.mask = i.row.pattern

theorem wait : Statement .wait := by unfold Statement; decide
theorem svcTick : Statement .svcTick := by unfold Statement; decide
theorem svcEdgeA : Statement .svcEdgeA := by unfold Statement; decide
theorem svcEdgeB : Statement .svcEdgeB := by unfold Statement; decide
theorem txb : Statement .txb := by unfold Statement; decide
theorem hsToggle : Statement .hsToggle := by unfold Statement; decide
theorem hsLapreset : Statement .hsLapreset := by unfold Statement; decide
theorem hsSecond : Statement .hsSecond := by unfold Statement; decide
theorem hrToggle : Statement .hrToggle := by unfold Statement; decide
theorem hrLapreset : Statement .hrLapreset := by unfold Statement; decide
theorem hrSecond : Statement .hrSecond := by unfold Statement; decide
theorem hRsvd : Statement .hRsvd := by unfold Statement; decide

end Sys2Proof.Laws.RowWord
end

