-- ==== Sys2Proof/Laws/Step.lean ====
section
/-!
SUPPORT. What a step does, by the next entry of the schedule, and how scripts run piece by piece.
-/
namespace Sys2Proof.Machine

/-- Every dispatcher word decodes. -/
theorem decodeD_total (w : DWord) : ∃ i, decodeD w = .ok i := by
  have h : ∀ w : DWord, (decodeD w).toBool = true := by decide
  have hw := h w
  cases hd : decodeD w with
  | ok i => exact ⟨i, rfl⟩
  | error e => rw [hd] at hw; cases hw

/-- The dispatcher's step is the decoded operation. -/
theorem dispStep_of_decode {s : State} {i : Instr} (h : decodeD (dword s) = .ok i) : dispStep s = exec i s := by
  have h' : decodeWord .d (dword s).toNat = .ok i := h
  simp [dispStep, runWord, h']

theorem step_nil {s : State} (h : s.inputs = []) : step s = dispStep s.drawReady := by simp only [step, h]

theorem step_disp {s : State} {r : Bool} {rest : List Input} (h : s.inputs = .disp r :: rest) :
    step s = dispStep ((s.setInputs rest).setReady r) := by simp only [step, h]

theorem step_ovf {s : State} {rest : List Input} (h : s.inputs = .ovf :: rest) :
    step s = .next (ovf (s.setInputs rest)) := by simp only [step, h]

theorem step_sampleA {s : State} {v : Bool} {rest : List Input} (h : s.inputs = .sampleA v :: rest) :
    step s = .next (sampleA v (s.setInputs rest)) := by simp only [step, h]

theorem step_sampleB {s : State} {v : Bool} {rest : List Input} (h : s.inputs = .sampleB v :: rest) :
    step s = .next (sampleB v (s.setInputs rest)) := by simp only [step, h]

theorem step_rst {s : State} {rest : List Input} (h : s.inputs = .rst :: rest) :
    step s = .next (s.setInputs rest).resetRegs := by simp only [step, h]

theorem step_fg {s : State} {rest : List Input} (h : s.inputs = .fg :: rest) :
    step s = .next (s.setInputs rest) := by simp only [step, h, idleFg]

theorem step_handle {s : State} {ev : EvCode} {rest : List Input} (h : s.inputs = .handle ev :: rest) :
    step s = handleStep ev (s.setInputs rest) := by simp only [step, h]

theorem step_clk {s : State} {a b r : Bool} {rest : List Input} (h : s.inputs = .clk a b r :: rest) :
    step s = afterDisp a b (dispStep ((s.setInputs rest).setReady r)) := by simp only [step, h]

/-- Everything a step that answers a next state can be: one operation of the dispatcher or of a direct call, one step of
the environment or of the foreground, or a clock cycle. -/
theorem step_next_cases {s t : State} (h : step s = .next t) :
    (∃ i, decodeD (dword s) = .ok i ∧
      ((s.inputs = [] ∧ exec i s.drawReady = .next t) ∨
       (∃ r rest, s.inputs = .disp r :: rest ∧ exec i ((s.setInputs rest).setReady r) = .next t) ∨
       (∃ a b r rest u, s.inputs = .clk a b r :: rest ∧ exec i ((s.setInputs rest).setReady r) = .next u ∧
         t = clockEdge a b u))) ∨
    (∃ rest, s.inputs = .ovf :: rest ∧ t = ovf (s.setInputs rest)) ∨
    (∃ v rest, s.inputs = .sampleA v :: rest ∧ t = sampleA v (s.setInputs rest)) ∨
    (∃ v rest, s.inputs = .sampleB v :: rest ∧ t = sampleB v (s.setInputs rest)) ∨
    (∃ rest, s.inputs = .rst :: rest ∧ t = (s.setInputs rest).resetRegs) ∨
    (∃ rest, s.inputs = .fg :: rest ∧ t = s.setInputs rest) ∨
    (∃ ev rest i, s.inputs = .handle ev :: rest ∧ s.ds = .idle ∧ decodeH (hword s.st ev) = .ok i ∧
      exec i (s.setInputs rest) = .next t) := by
  obtain ⟨i, hi⟩ := decodeD_total (dword s)
  match hin : s.inputs with
  | [] => rw [step_nil hin, dispStep_of_decode (i := i) (by simpa using hi)] at h; exact .inl ⟨i, hi, .inl ⟨rfl, h⟩⟩
  | .disp r :: rest =>
    rw [step_disp hin, dispStep_of_decode (i := i) (by simpa using hi)] at h
    exact .inl ⟨i, hi, .inr (.inl ⟨r, rest, rfl, h⟩)⟩
  | .clk a b r :: rest =>
    rw [step_clk hin, dispStep_of_decode (i := i) (by simpa using hi)] at h
    cases hu : exec i ((s.setInputs rest).setReady r) with
    | next u =>
      rw [hu] at h
      have ht : clockEdge a b u = t := by simpa [afterDisp] using h
      exact .inl ⟨i, hi, .inr (.inr ⟨a, b, r, rest, u, rfl, hu, ht.symm⟩)⟩
    | fault e => rw [hu] at h; cases h
    | refused e => rw [hu] at h; cases h
  | .ovf :: rest => rw [step_ovf hin] at h; cases h; exact .inr (.inl ⟨rest, rfl, rfl⟩)
  | .sampleA v :: rest => rw [step_sampleA hin] at h; cases h; exact .inr (.inr (.inl ⟨v, rest, rfl, rfl⟩))
  | .sampleB v :: rest => rw [step_sampleB hin] at h; cases h; exact .inr (.inr (.inr (.inl ⟨v, rest, rfl, rfl⟩)))
  | .rst :: rest => rw [step_rst hin] at h; cases h; exact .inr (.inr (.inr (.inr (.inl ⟨rest, rfl, rfl⟩))))
  | .fg :: rest => rw [step_fg hin] at h; cases h; exact .inr (.inr (.inr (.inr (.inr (.inl ⟨rest, rfl, rfl⟩)))))
  | .handle ev :: rest =>
    rw [step_handle hin] at h
    have hd : s.ds = .idle := by
      cases hds : s.ds with
      | idle => rfl
      | emit => simp [handleStep, hds] at h
    simp only [handleStep, State.setInputs_ds, hd, State.setInputs_st, runWord] at h
    cases hw : decodeWord .h (hword s.st ev).toNat with
    | error e => rw [hw] at h; cases h
    | ok j =>
      rw [hw] at h
      exact .inr (.inr (.inr (.inr (.inr (.inr ⟨ev, rest, j, rfl, hd, hw, h⟩)))))

/-- A run of the machine is its first step, then the rest. -/
theorem core_run_succ (n : Nat) (s : State) :
    Sys2Proof.core.run (n + 1) s =
      match step s with
      | .next t => Sys2Proof.core.run n t
      | .fault e => .fault e
      | .refused e => .refused e := by
  simp only [Host.Core.run]
  cases h : step s <;>
  · have h' : Sys2Proof.core.step s = _ := h
    rw [h']

theorem runScript_nil (s : State) : runScript [] s = .next s := rfl

/-- A script whose first step answers `t`, with the schedule after it, goes on as the rest of the script from `t`. -/
theorem runScript_cons {x : Input} {l : List Input} {s t : State}
    (h : step (s.setInputs (x :: (l ++ s.inputs))) = .next (t.setInputs (l ++ s.inputs))) :
    runScript (x :: l) s = runScript l (t.setInputs s.inputs) := by
  show Sys2Proof.core.run (l.length + 1) (s.setInputs (x :: (l ++ s.inputs))) = _
  rw [core_run_succ, h]
  rfl

/-- A run in two parts. -/
theorem core_run_add (m n : Nat) (s : State) :
    Sys2Proof.core.run (m + n) s =
      match Sys2Proof.core.run m s with
      | .next t => Sys2Proof.core.run n t
      | .fault e => .fault e
      | .refused e => .refused e := by
  induction m generalizing s with
  | zero => rw [Nat.zero_add]; rfl
  | succ m ih =>
    rw [Nat.add_right_comm, core_run_succ, core_run_succ]
    cases step s with
    | next t => exact ih t
    | fault e => rfl
    | refused e => rfl

end Sys2Proof.Machine
end

