-- ==== Sys2Proof/Laws/Schedule.lean ====
section
/-!
SUPPORT. No operation reads or writes the schedule, so a script runs entry by entry.
-/
namespace Sys2Proof.Machine

/-- Change the next state of an outcome. -/
def onNext (f : State → State) (r : Host.Outcome State Fault Refusal) : Host.Outcome State Fault Refusal :=
  match r with
  | .next s => .next (f s)
  | .fault e => .fault e
  | .refused e => .refused e

theorem finish_map (f : State → State) (r : Except Fault State) : finish (r.map f) = onNext f (finish r) := by
  cases r <;> rfl

theorem lapStart_setInputs (l : List Input) (s : State) :
    lapStart (s.setInputs l) = (lapStart s).map (State.setInputs l) := by
  unfold lapStart
  have hd : (s.setInputs l).ds = s.ds := rfl
  rw [hd]
  cases s.ds with
  | emit => rfl
  | idle =>
    by_cases h : s.txi = 0
    · exact (if_pos (c := (s.setInputs l).txi = 0) h).trans (by rw [if_pos h]; rfl)
    · exact (if_neg (c := (s.setInputs l).txi = 0) h).trans (by rw [if_neg h]; rfl)

theorem advance_setInputs (m : RolloverMode) (l : List Input) (s : State) :
    advance m (s.setInputs l) = (advance m s).map (State.setInputs l) := by
  unfold advance
  by_cases h : s.clock.InRange m
  · exact (if_pos (c := (s.setInputs l).clock.InRange m) h).trans (by rw [if_pos h]; rfl)
  · exact (if_neg (c := (s.setInputs l).clock.InRange m) h).trans (by rw [if_neg h]; rfl)

theorem handle_setInputs (ev : Event) (l : List Input) (s : State) :
    handle ev (s.setInputs l) = (handle ev s).map (State.setInputs l) := by
  simp only [handle, State.setInputs_ds, State.setInputs_st]
  cases s.ds with
  | emit => rfl
  | idle =>
    cases s.st <;> cases ev
    case running.lapReset => exact lapStart_setInputs l s
    case running.second => exact advance_setInputs _ l s
    all_goals rfl

theorem refresh_setInputs (l : List Input) (s : State) :
    refresh (s.setInputs l) = (refresh s).map (State.setInputs l) := by
  unfold refresh refreshWith
  by_cases hc : s.cur.toNat < Config.nSlots
  · refine (if_pos (c := (s.setInputs l).cur.toNat < Config.nSlots) hc).trans ?_
    rw [if_pos hc]
    have hg : (s.setInputs l).db.get? (s.setInputs l).cur.toNat = s.db.get? s.cur.toNat := rfl
    rw [hg]
    cases s.db.get? s.cur.toNat with
    | none => rfl
    | some d => cases h : segLookup segReference d <;> simp only [h] <;> rfl
  · exact (if_neg (c := (s.setInputs l).cur.toNat < Config.nSlots) hc).trans (by rw [if_neg hc]; rfl)

theorem divStep_setInputs (l : List Input) (s : State) :
    divStep (s.setInputs l) = (divStep s).map (State.setInputs l) := by
  unfold divStep
  have hv : (s.setInputs l).div = s.div := rfl
  rw [hv]
  by_cases h1 : s.div.toNat < Config.ticksPerSecond
  · rw [if_pos h1, if_pos h1]
    by_cases h2 : s.div.toNat + 1 = Config.ticksPerSecond
    · rw [if_pos h2, if_pos h2]; exact handle_setInputs _ l (s.setDiv 0)
    · rw [if_neg h2, if_neg h2]; rfl
  · rw [if_neg h1, if_neg h1]; rfl

theorem takeInterrupt_setInputs (src : Source) (l : List Input) (s : State) :
    (s.setInputs l).takeInterrupt src = (s.takeInterrupt src).setInputs l := by cases src <;> rfl

theorem txByte_setInputs (l : List Input) (s : State) :
    txByte (s.setInputs l) = (txByte s).map (State.setInputs l) := by
  unfold txByte
  have hb : lapByte (s.setInputs l).db (s.setInputs l).txi.toNat = lapByte s.db s.txi.toNat := rfl
  have hk : (s.setInputs l).txi = s.txi := rfl
  rw [hb, hk]
  cases lapByte s.db s.txi.toNat with
  | error e => rfl
  | ok b =>
    by_cases h : s.txi.toNat = 12
    · simp only [if_pos h]; rfl
    · simp only [if_neg h]; rfl

/-- An operation neither reads nor writes the schedule. -/
theorem exec_setInputs (i : Instr) (l : List Input) (s : State) :
    exec i (s.setInputs l) = onNext (State.setInputs l) (exec i s) := by
  cases i
  case svcTick =>
    simp only [exec, execSvcTick, tickService, takeInterrupt_setInputs, refresh_setInputs]
    cases refresh (s.takeInterrupt .tick) with
    | error e => rfl
    | ok u => exact (congrArg finish (divStep_setInputs l u)).trans (finish_map _ _)
  case svcEdgeA =>
    simp only [exec, execSvcEdgeA, edgeService, takeInterrupt_setInputs, handle_setInputs, finish_map]
  case svcEdgeB =>
    simp only [exec, execSvcEdgeB, edgeService, takeInterrupt_setInputs, handle_setInputs, finish_map]
  case txb =>
    show execTxb _ = onNext _ (execTxb s)
    unfold execTxb
    have hr : (s.setInputs l).txReady = s.txReady := rfl
    rw [hr]
    cases s.txReady
    · rfl
    · exact (congrArg finish (txByte_setInputs l s)).trans (finish_map _ _)
  case hrLapreset => exact (congrArg finish (lapStart_setInputs l s)).trans (finish_map _ _)
  case hrSecond => exact (congrArg finish (advance_setInputs _ l s)).trans (finish_map _ _)
  all_goals rfl

/-- A dispatcher entry at the head of a script: the decoded operation, then the rest of the script. -/
theorem runScript_disp {r : Bool} {l : List Input} {i : Instr} {s t : State} (hd : decodeD (dword s) = .ok i)
    (h : exec i (s.setReady r) = .next t) : runScript (.disp r :: l) s = runScript l (t.setInputs s.inputs) := by
  apply runScript_cons
  have hs : step (s.setInputs (.disp r :: (l ++ s.inputs))) = dispStep ((s.setReady r).setInputs (l ++ s.inputs)) := rfl
  rw [hs, dispStep_of_decode (i := i) (by simpa using hd), exec_setInputs, h]
  rfl

/-- An overflow at the head of a script. -/
theorem runScript_ovf (l : List Input) (s : State) : runScript (.ovf :: l) s = runScript l (ovf s) :=
  runScript_cons (t := ovf s) rfl

/-- A sample of line A at the head of a script. -/
theorem runScript_sampleA (v : Bool) (l : List Input) (s : State) :
    runScript (.sampleA v :: l) s = runScript l (sampleA v s) :=
  runScript_cons (t := sampleA v s) rfl

/-- A sample of line B at the head of a script. -/
theorem runScript_sampleB (v : Bool) (l : List Input) (s : State) :
    runScript (.sampleB v :: l) s = runScript l (sampleB v s) :=
  runScript_cons (t := sampleB v s) rfl

/-- A foreground step at the head of a script. -/
theorem runScript_fg (l : List Input) (s : State) : runScript (.fg :: l) s = runScript l s :=
  runScript_cons (t := s) rfl

end Sys2Proof.Machine
end

