-- ==== Sys2Proof/Tests/Slice0.lean ====
section
/-!
SUPPORT. The model's own tests. Expected values come from spec/30_encoding.md and spec/95_test_vectors.md (the vector's
number stands beside each test). The second part shows, for every statement that has hypotheses, a state that meets them.
-/
namespace Sys2Proof.Tests

open Sys2Proof Sys2Proof.Machine Sys2Proof.Safety

/-! ## Small states -/

/-- Reset, with the chronometer state and the Clock preset and the buffer formatted from it. -/
def atTime (st : ChronoState) (hh : BitVec 4) (mm ss : BitVec 6) : State :=
  { State.reset with st := st, clock := ⟨hh, mm, ss⟩, db := formatOf ⟨hh, mm, ss⟩ }

/-- While a lap line of `00:01:00` is being sent: `k` bytes are out. -/
def sending (k : BitVec 4) (ready : Bool) : State :=
  { atTime .running 0 1 0 with
    ds := .emit, txi := k, txReady := ready, txlog := (lapLine ⟨0, 0, 0, 1, 0, 0⟩).take k.toNat }

/-- The start state of P3 after its three ENV lines: three flags pending, `T = 00:00:59`, `DIV = 149`, `CUR = 5`. -/
def threePending (st : ChronoState) : State :=
  { atTime st 0 0 59 with
    tIF := true, aIF := true, bIF := true, div := 149, cur := 5, seg := 0x6D, sel := 0b010000,
    dispLog := [(0x6D, 0b010000)] }

/-- A segment table other than the reference one: the pattern of a digit is its number. -/
def countingTable : SegTable := #v[0, 1, 2, 3, 4, 5, 6, 7, 8, 9]

/-- No flag pending, both lines stored high with a low in their last synchroniser stage, the timer at its last count:
the next clock cycle raises all three flags. -/
def aboutToFire : State :=
  { State.reset with
    la := true, lb := true, impl := ⟨Config.tickPeriod - 1, true, false, true, false⟩, inputs := [.clk true true true] }

/-- What a test reads off an outcome. -/
def read {α : Type} (f : State → α) (r : Host.Outcome State Fault Refusal) : Option α :=
  match r with
  | .next s => some (f s)
  | .fault _ => none
  | .refused _ => none

/-- Did the outcome fault, and how? -/
def faultOf (r : Host.Outcome State Fault Refusal) : Option Fault :=
  match r with
  | .fault e => some e
  | .next _ => none
  | .refused _ => none

/-! ## Words, written out bit by bit from 30_encoding.md R81 (`d b a t`) and R84 (`s ee`) -/

theorem test_word_wait : decodeD 0b0000 = .ok .wait := by decide
theorem test_word_svcTick : decodeD 0b0001 = .ok .svcTick ∧ decodeD 0b0111 = .ok .svcTick := by decide
theorem test_word_svcEdgeA : decodeD 0b0010 = .ok .svcEdgeA ∧ decodeD 0b0110 = .ok .svcEdgeA := by decide
theorem test_word_svcEdgeB : decodeD 0b0100 = .ok .svcEdgeB := by decide
theorem test_word_txb : decodeD 0b1000 = .ok .txb ∧ decodeD 0b1111 = .ok .txb := by decide
theorem test_word_hsToggle : decodeH 0b000 = .ok .hsToggle := by decide
theorem test_word_hsLapreset : decodeH 0b001 = .ok .hsLapreset := by decide
theorem test_word_hsSecond : decodeH 0b010 = .ok .hsSecond := by decide
theorem test_word_hrToggle : decodeH 0b100 = .ok .hrToggle := by decide
theorem test_word_hrLapreset : decodeH 0b101 = .ok .hrLapreset := by decide
theorem test_word_hrSecond : decodeH 0b110 = .ok .hrSecond := by decide
theorem test_word_hRsvd : decodeH 0b011 = .ok .hRsvd ∧ decodeH 0b111 = .ok .hRsvd := by decide

/-- R93: the words have fixed lengths, so a wider number is refused by name. -/
theorem test_word_tooWide :
    decodeWord .d 16 = .error .wordTooWide ∧ decodeWord .h 8 = .error .wordTooWide := by decide

/-- R82: the letters of a pattern take no part; `SVC.TICK` with every letter set is `0111`, `TXB` is `1111`. -/
theorem test_encode_letters :
    encode .svcTick 0xF = (.d, 0b0111) ∧ encode .txb 0 = (.d, 0b1000) ∧ encode .hRsvd 0xF = (.h, 0b111) := by decide

/-- R86: no rule selects the reserved code, and that is the one ill-formed operation. -/
theorem test_wellFormed_refuses_reserved : ¬ Instr.hRsvd.WellFormed := by decide
theorem test_wellFormed_accepts : Instr.hrSecond.WellFormed ∧ Instr.txb.WellFormed := by decide

/-- The table's words through the host's entry points: a 3-bit word is a handle word, any other a dispatcher word. -/
theorem test_tableWord : decodeTableWord 4 0x4 = some .svcEdgeB ∧ decodeTableWord 3 0x4 = some .hrToggle := by decide
theorem test_withFetchWord_dispatcher :
    dword (State.reset.withFetchWord 4 0b0100) = 0b0100 ∧
      read (·.bIF) (step (State.reset.withFetchWord 4 0b0100)) = some false := by decide
theorem test_withFetchWord_handle :
    read (·.st) (step (State.reset.withFetchWord 3 0b100)) = some .stopped ∧
      read (·.st) (step (State.reset.withFetchWord 3 0b000)) = some .running := by decide

/-! ## One step each, against the vectors -/

/-- V71: after reset, with no environment step, the dispatcher waits. -/
theorem test_wait_after_reset : read (·.tIF) (exec .wait State.reset) = some false := by decide

/-- V47: the refresh uses the old buffer, then the carry into minutes. -/
theorem test_tick_v47 :
    read (fun t => (t.seg, t.sel, t.cur, t.div, t.clock, t.db)) (exec .svcTick (threePending .running)) =
      some (0x6F, 0b100000, 0, 0, ⟨0, 1, 0⟩, ⟨0, 0, 0, 1, 0, 0⟩) := by decide

/-- V54: a second completed while STOPPED leaves the Clock; V1: the other two flags stay. -/
theorem test_tick_v54 :
    read (fun t => (t.div, t.clock, t.tIF, t.aIF, t.bIF)) (exec .svcTick (threePending .stopped)) =
      some (0, ⟨0, 0, 59⟩, false, true, true) := by decide

/-- V61a, both directions. -/
theorem test_edgeA_v61a :
    read (fun t => (t.aIF, t.st)) (exec .svcEdgeA (threePending .stopped)) = some (false, .running) ∧
      read (fun t => (t.aIF, t.st)) (exec .svcEdgeA (threePending .running)) = some (false, .stopped) := by decide

/-- V61b, STOPPED: the Clock is reset. -/
theorem test_edgeB_v61b_stopped :
    read (fun t => (t.bIF, t.clock, t.db)) (exec .svcEdgeB { atTime .stopped 0 0 9 with bIF := true }) =
      some (false, ⟨0, 0, 0⟩, ⟨0, 0, 0, 0, 0, 0⟩) := by decide

/-- V61b, RUNNING: the lap line starts, the Clock stays. -/
theorem test_edgeB_v61b_running :
    read (fun t => (t.bIF, t.ds, t.txi, t.clock)) (exec .svcEdgeB { atTime .running 0 0 9 with bIF := true }) =
      some (false, .emit, 0, ⟨0, 0, 9⟩) := by decide

/-- V62: byte 8 is the ones digit of the minutes, `0x31`. -/
theorem test_txb_v62 : read (fun t => (t.txlog.getLast?, t.txi, t.ds)) (exec .txb (sending 8 true)) =
    some (some 0x31, 9, .emit) := by decide

/-- V62: after byte 12 the whole line `4C 61 70 73 20 30 30 30 31 30 30 0D 0A` is out and the handler has returned. -/
theorem test_txb_last : read (fun t => (t.txlog, t.txi, t.ds)) (exec .txb (sending 12 true)) =
    some ([0x4C, 0x61, 0x70, 0x73, 0x20, 0x30, 0x30, 0x30, 0x31, 0x30, 0x30, 0x0D, 0x0A], 0, .idle) := by decide

/-- V10 to V15. -/
theorem test_hsToggle_v10 : read (·.st) (exec .hsToggle (atTime .stopped 1 2 3)) = some .running := by decide
theorem test_hsLapreset_v11 : read (fun t => (t.st, t.clock, t.db)) (exec .hsLapreset (atTime .stopped 1 2 3)) =
    some (.stopped, ⟨0, 0, 0⟩, ⟨0, 0, 0, 0, 0, 0⟩) := by decide
theorem test_hsSecond_v12 : read (fun t => (t.st, t.clock)) (exec .hsSecond (atTime .stopped 1 2 3)) =
    some (.stopped, ⟨1, 2, 3⟩) := by decide
theorem test_hrToggle_v13 : read (·.st) (exec .hrToggle (atTime .running 1 2 3)) = some .stopped := by decide
theorem test_hrLapreset_v14 : read (fun t => (t.st, t.ds, t.txi, t.db)) (exec .hrLapreset (atTime .running 1 2 3)) =
    some (.running, .emit, 0, ⟨0, 1, 0, 2, 0, 3⟩) := by decide
theorem test_hrSecond_v15 : read (fun t => (t.clock, t.db)) (exec .hrSecond (atTime .running 1 2 3)) =
    some (⟨1, 2, 4⟩, ⟨0, 1, 0, 2, 0, 4⟩) := by decide

/-- V15r. -/
theorem test_hRsvd_v15r : faultOf (exec .hRsvd State.reset) = some .reservedEventCode := by decide

/-- V22a, V22c, V22d, V23: the carries of `corrected` mode. -/
theorem test_advance_corrected :
    advanceCorrected ⟨0, 59, 59⟩ = ⟨1, 0, 0⟩ ∧ advanceCorrected ⟨11, 59, 59⟩ = ⟨12, 0, 0⟩ ∧
      advanceCorrected ⟨12, 0, 0⟩ = ⟨12, 0, 1⟩ ∧ advanceCorrected ⟨12, 59, 59⟩ = ⟨0, 0, 0⟩ := by decide

/-- V24, V25, V25b, V26, V27: the carries of `source_compatible` mode. -/
theorem test_advance_source :
    advanceSource ⟨0, 0, 59⟩ = ⟨0, 0, 60⟩ ∧ advanceSource ⟨0, 0, 60⟩ = ⟨0, 1, 0⟩ ∧
      advanceSource ⟨0, 60, 60⟩ = ⟨1, 0, 0⟩ ∧ advanceSource ⟨12, 60, 60⟩ = ⟨13, 0, 0⟩ ∧
      advanceSource ⟨13, 60, 60⟩ = ⟨0, 0, 0⟩ := by decide

/-- V35, V36. -/
theorem test_format : formatOf ⟨9, 8, 7⟩ = ⟨0, 9, 0, 8, 0, 7⟩ ∧ formatOf ⟨13, 60, 60⟩ = ⟨1, 3, 6, 0, 6, 0⟩ := by decide

/-- R89, R140: with another table the pattern is that table's, and the selector and the cursor are the same. -/
theorem test_refresh_other_table :
    (refreshWith countingTable 6 (threePending .running)).toOption.map (fun t => (t.seg, t.sel, t.cur)) =
      some (9, 0b100000, 0) := by decide

/-- V60d, V60g: a fall sets the flag, a second fall merges. V60b: a rise does not. -/
theorem test_sample :
    (sampleA false { State.reset with la := true }).aIF = true ∧
      (sampleA false { State.reset with la := true, aIF := true }).aIF = true ∧
      (sampleA true State.reset).aIF = false ∧ (sampleA true State.reset).la = true := by decide

/-- V70: a reset in the middle of a line keeps the bytes already sent. -/
theorem test_reset_v70 : read (fun t => (t.ds, t.txi, t.txlog.length)) (step { sending 7 true with inputs := [.rst] }) =
    some (.idle, 0, 7) := by decide

/-- V3: the sink not ready, the dispatcher waits; the environment's overflow still lands. -/
theorem test_txb_blocked : read (fun t => (t.txi, t.txlog.length)) (exec .txb (sending 7 false)) = some (7, 7) ∧
    read (·.tIF) (step { sending 7 false with inputs := [.ovf] }) = some true := by decide

/-! ## Witnesses: states that meet the hypotheses of the statements -/

theorem tickPeriod_pos : 0 < Config.tickPeriod := by unfold Config.tickPeriod; omega

/-- Three pending flags meet the machine's invariant, in both chronometer states. -/
theorem witness_invariant_idle (st : ChronoState) : MachineInv (threePending st) ∧ (threePending st).ds = .idle ∧
    (threePending st).tIF = true ∧ (threePending st).aIF = true ∧ (threePending st).bIF = true := by
  refine ⟨⟨⟨?_, ?_, ?_, ?_, ?_, ?_, tickPeriod_pos⟩, ?_, Or.inr ⟨?_, ⟨5, ?_⟩, ?_⟩, fun _ => ?_⟩, rfl, rfl, rfl, rfl⟩
  all_goals (cases st <;> decide)

/-- A line being sent, before its last byte, meets the invariant; so does one with the largest Clock value. -/
theorem witness_invariant_emit : MachineInv (sending 12 true) := by
  refine ⟨⟨?_, ?_, ?_, ?_, ?_, ?_, tickPeriod_pos⟩, ?_, Or.inl ?_, fun _ => ?_⟩
  all_goals decide
theorem witness_invariant_top : MachineInv (atTime .running 12 59 59) := by
  refine ⟨⟨?_, ?_, ?_, ?_, ?_, ?_, tickPeriod_pos⟩, ?_, Or.inl ?_, fun _ => ?_⟩
  all_goals decide

/-- `EveryStepKeepsTheInvariant`, `NoStepFaultsUnderTheInvariant`, `LogsOnlyGrow`: a step from such a state. -/
theorem witness_step : (∃ t, step { threePending .running with inputs := [.disp false] } = .next t) ∧
    (∃ t, step { sending 12 true with inputs := [.disp true] } = .next t) := ⟨⟨_, rfl⟩, ⟨_, rfl⟩⟩
theorem witness_noStepFaults :
    ∀ ev rest, ({ atTime .running 12 59 59 with inputs := [.handle 0b10] } : State).inputs = .handle ev :: rest →
      ({ atTime .running 12 59 59 with inputs := [.handle 0b10] } : State).ds = .idle ∧ ev ≠ 0b11 := by
  intro ev rest h; cases h; decide

/-- `StepRunsTheDecodedOperation`: every operation of Format D is decoded from some state, and any schedule can stand
there. -/
theorem witness_decoded : ∀ i ∈ [Instr.wait, .svcTick, .svcEdgeA, .svcEdgeB, .txb],
    ∃ s ∈ [State.reset, ovf State.reset, { State.reset with aIF := true }, { State.reset with bIF := true }, sending 0 true],
      decodeD (dword s) = .ok i := by decide
theorem witness_schedule (s : State) (l : List Input) :
    dword (s.setInputs l) = dword s ∧ (s.setInputs l).inputs = l := ⟨rfl, rfl⟩

/-- `StepRunsADirectHandleCall`: both clauses. -/
theorem witness_handleCall : decodeH (hword (atTime .running 12 59 58).st 0b10) = .ok .hrSecond ∧
    (atTime .running 12 59 58).ds = .idle ∧ (sending 3 true).ds = .emit := by decide

/-- `ServiceClearsItsFlagAndNoOther`, `EachRegisterHasItsWriters`: each service runs. -/
theorem witness_services (src : Source) : ∃ t, exec (serviceOf src) (threePending .running) = .next t := by
  cases src <;> exact ⟨_, rfl⟩

/-- `FlagFallsOnlyByItsServiceOrReset`: a fall by service and a fall by reset. -/
theorem witness_flagFalls :
    read (·.tIF) (step { threePending .running with inputs := [.disp true] }) = some false ∧
      read (·.bIF) (step { threePending .running with inputs := [.rst] }) = some false := by decide

/-- `FlagRisesOnlyWhenItsSourceFires`: each flag rises by a step of its own. -/
theorem witness_flagRises :
    read (·.tIF) (step { State.reset with inputs := [.ovf] }) = some true ∧
      read (·.aIF) (step { State.reset with la := true, inputs := [.sampleA false] }) = some true ∧
      read (·.bIF) (step { State.reset with lb := true, inputs := [.sampleB false] }) = some true := by decide

/-- The same, inside a clock cycle: all three flags are 0 before it and 1 after it. -/
theorem witness_flagRises_cycle : aboutToFire.tIF = false ∧ aboutToFire.aIF = false ∧ aboutToFire.bIF = false ∧
    ∃ t, step aboutToFire = .next t ∧ t.tIF = true ∧ t.aIF = true ∧ t.bIF = true := by
  have due : overflowDue aboutToFire.impl = true := by
    simp [overflowDue, aboutToFire, Nat.sub_add_cancel tickPeriod_pos]
  refine ⟨rfl, rfl, rfl, clockEdge true true ((aboutToFire.setInputs []).setReady true), rfl, ?_⟩
  simp only [clockEdge, State.setReady_impl, State.setInputs_impl, due, if_true]
  decide

/-- `SetWinsOverClearInOneCycle` and the other statements about a clock cycle: a cycle that serves the tick while all
three sources fire. -/
theorem witness_setWins : ∃ s t : State, s.inputs = [.clk true true true] ∧ step s = .next t ∧ s.tIF = true ∧
    s.impl.tcnt + 1 = Config.tickPeriod ∧ s.la = true ∧ s.impl.a2 = false ∧ s.lb = true ∧ s.impl.b2 = false :=
  ⟨{ threePending .running with
      la := true, lb := true, impl := ⟨Config.tickPeriod - 1, true, false, true, false⟩,
      inputs := [.clk true true true] }, _, rfl, rfl, rfl,
    Nat.sub_add_cancel tickPeriod_pos, rfl, rfl, rfl, rfl⟩

/-- `RefreshLightsTheDigitAtTheCursor` and the three tick statements: cursor 0 and 5, digits 0 and 9. -/
theorem witness_refresh :
    (atTime .running 0 0 59).db.get? 0 = some 0 ∧ segLookup segReference 0 = some 0x3F ∧
      (threePending .running).db.get? (threePending .running).cur.toNat = some 9 ∧ segTable 9 = some 0x6F := by decide

/-- The divider at 148 and at 149, the Clock at the top of its range. -/
theorem witness_divider :
    ({ threePending .running with div := 148 } : State).div.toNat < 149 ∧ (threePending .running).div.toNat = 149 ∧
      (atTime .running 12 59 59).clock.InRange .corrected ∧ (atTime .running 0 0 59).clock.InRange .corrected := by decide

/-- `BlankSlotVariantOfRefresh`: slot 6, and slot 5 of the other clause. -/
theorem witness_blankSlot : ({ State.reset with cur := 6 } : State).cur = 6 ∧
    ({ State.reset with cur := 5 } : State).db.get? 5 = some 0 := by decide

/-- `InjectiveTableReadsBackTheBuffer`: an injective table, and two states that differ and show the same. -/
theorem witness_injectiveTable : SegInjective countingTable := by unfold SegInjective; decide
theorem witness_readBack : ∃ u v, refreshTimes countingTable 6 (threePending .running) = .ok u ∧
    refreshTimes countingTable 6 (threePending .stopped) = .ok v ∧ u.dispLog = v.dispLog := ⟨_, _, rfl, rfl, rfl⟩

/-- `ScanIsPeriodicAndRoundRobin`, `LapLineHasThirteenBytes`: the largest cursor and the largest digits. -/
theorem witness_scan : (threePending .running).cur.toNat ≤ 5 ∧ DigitsOk (threePending .running).db ∧
    DigitsOk ⟨9, 9, 9, 9, 9, 9⟩ := by decide

/-- `SecondWhileRunningAdvancesTheClock`: one Clock value for each of its four clauses. -/
theorem witness_advance :
    (⟨12, 59, 58⟩ : Clock).InRange .corrected ∧ (⟨12, 58, 59⟩ : Clock).InRange .corrected ∧
      (⟨11, 59, 59⟩ : Clock).InRange .corrected ∧ (⟨12, 59, 59⟩ : Clock).InRange .corrected ∧
      (⟨13, 60, 60⟩ : Clock).InRange .sourceCompatible := by decide

/-- The edge services, the lap event and TOGGLE: idle, in both chronometer states, with byte index 0. -/
theorem witness_idle (st : ChronoState) :
    (threePending st).ds = .idle ∧ (threePending st).txi = 0 ∧ (threePending st).st = st := ⟨rfl, rfl, rfl⟩

/-- `TxbSendsTheNextByte`: first and last index before 12; `TxbSendsTheLastByteAndReturns`; `TxbWaitsForTheSink`;
`TextSinkOutputs`. -/
theorem witness_txb :
    DigitsOk (sending 0 true).db ∧ (lapLine (sending 0 true).db)[0]? = some 0x4C ∧
      (lapLine (sending 11 true).db)[11]? = some 0x0D ∧ (sending 11 true).txi.toNat < 12 ∧
      (sending 12 true).txi = 12 ∧ (sending 12 true).txReady = true ∧ (sending 12 false).txReady = false ∧
      (sending 0 true).ds = .emit := by decide

/-- `LapLineIsSentOnceAndUndisturbed`: an interleaving with twelve ready steps, and one with none. -/
theorem witness_lapLine :
    (∀ x ∈ [Input.ovf, .disp false, .sampleB true, .fg] ++ List.replicate 12 (Input.disp true), isPlainStep x = true) ∧
      readySteps ([Input.ovf, .disp false, .sampleB true, .fg] ++ List.replicate 12 (Input.disp true)) = 12 ∧
      readySteps [Input.disp false] = 0 ∧ (sending 0 true).txi = 0 := by decide

/-- `SegmentTableAndSelectorCodes`: the first value without a pattern, and two equal digits. -/
theorem witness_segTable : 10 ≤ (10 : Digit).toNat ∧ (9 : Digit).toNat ≤ 9 := by decide

/-- `UnreachableValuesFaultByName`: the hypotheses of each clause at a boundary value. -/
theorem witness_unreachable :
    6 ≤ ({ State.reset with cur := 6 } : State).cur.toNat ∧
      ({ State.reset with db := ⟨10, 0, 0, 0, 0, 0⟩ } : State).db.get? 0 = some 10 ∧
      150 ≤ ({ State.reset with div := 150 } : State).div.toNat ∧
      13 ≤ (sending 13 true).txi.toNat ∧
      ({ sending 5 true with db := ⟨10, 0, 0, 0, 0, 0⟩ } : State).db.get? 0 = some 10 ∧
      ({ sending 10 true with db := ⟨0, 0, 0, 0, 0, 10⟩ } : State).db.get? 5 = some 10 ∧
      ¬ (atTime .running 0 0 60).clock.InRange .corrected ∧ ¬ (atTime .running 13 0 0).clock.InRange .corrected ∧
      ({ State.reset with txi := 1 } : State).txi ≠ 0 ∧ (sending 0 true).ds = .emit := by decide

/-- The statements about one head of the schedule: each head can stand there. -/
theorem witness_heads (x : Input) : ({ State.reset with inputs := [x] } : State).inputs = x :: [] := rfl

end Sys2Proof.Tests
end

section
/-!
SUPPORT. The state's own statements (10_state.md): who writes which register, what the logs and the flags can do, the
reset values, and the invariant that every step keeps.
-/
namespace Sys2Proof.Machine

open Sys2Proof.Safety

/-! ## What an operation leaves alone -/

/-- TOGGLE writes `ST` only (40_chronometer_fsm.md R101, R104). -/
theorem handle_toggle_ok {s t : State} (h : handle .toggle s = .ok t) : ∃ x, t = s.setSt x := by
  obtain ⟨-, h⟩ := handle_ok_iff.mp h
  cases hs : s.st <;> rw [hs] at h <;> exact ⟨_, h⟩

/-- SECOND writes the Clock and the buffer only (R103, R106). -/
theorem handle_second_ok {s t : State} (h : handle .second s = .ok t) : ∃ c d, t = (s.setClock c).setDb d := by
  obtain ⟨-, h⟩ := handle_ok_iff.mp h
  cases hs : s.st <;> rw [hs] at h
  case stopped => exact ⟨s.clock, s.db, h⟩
  case running => exact ⟨_, _, h.2⟩

/-- LAP_RESET writes the Clock and the buffer, or enters the emission of a line (R102, R105). -/
theorem handle_lapReset_ok {s t : State} (h : handle .lapReset s = .ok t) : t = clkReset s ∨ t = s.enterEmit := by
  obtain ⟨-, h⟩ := handle_ok_iff.mp h
  cases hs : s.st <;> rw [hs] at h
  case stopped => exact .inl h
  case running => exact .inr h.2

/-- `DIVSTEP` writes the divider, the Clock and the buffer only (43_timebase.md R162). -/
theorem divStep_ok {s t : State} (h : divStep s = .ok t) : ∃ n c d, t = ((s.setDiv n).setClock c).setDb d := by
  obtain ⟨-, rfl⟩ | ⟨-, h⟩ := divStep_ok_iff.mp h
  · exact ⟨s.div + 1, s.clock, s.db, rfl⟩
  · obtain ⟨c, d, rfl⟩ := handle_second_ok h
    exact ⟨0, c, d, rfl⟩

/-- `SVC.TICK` writes `TIF`, the display, the divider, the Clock and the buffer only (43_timebase.md R161). -/
theorem exec_svcTick_next {s t : State} (h : exec .svcTick s = .next t) : ∃ p q k n c d,
    t = ((((s.takeInterrupt .tick).showDigit p q k).setDiv n).setClock c).setDb d := by
  obtain ⟨u, hu, hd⟩ := exec_next_iff.mp h
  obtain ⟨_, p, -, -, -, rfl⟩ := refresh_ok_iff.mp hu
  obtain ⟨n, c, d, rfl⟩ := divStep_ok hd
  exact ⟨_, _, _, n, c, d, rfl⟩

/-- `TXB` sends one byte and moves on or returns, or waits for the sink (45_text_sink.md R203, R204). -/
theorem exec_txb_next {s t : State} (h : exec .txb s = .next t) :
    t = s ∨ ∃ b, t = (s.sendByte b).handlerReturn ∨ t = (s.sendByte b).nextByte := by
  obtain ⟨-, h⟩ | ⟨-, rfl⟩ := exec_next_iff.mp h
  · obtain ⟨b, -, ⟨-, rfl⟩ | ⟨-, rfl⟩⟩ := txByte_ok_iff.mp h
    · exact .inr ⟨b, .inl rfl⟩
    · exact .inr ⟨b, .inr rfl⟩
  · exact .inl rfl

/-- Settles O49: the access matrix of 10_state.md R45, one operation after the other. -/
theorem eachRegisterHasItsWriters : Obligations.EachRegisterHasItsWriters := by
  intro i s t h
  cases i
  case svcTick => obtain ⟨p, q, k, n, c, d, rfl⟩ := exec_svcTick_next h; simp
  case svcEdgeA => obtain ⟨x, rfl⟩ := handle_toggle_ok (exec_next_iff.mp h); simp
  case svcEdgeB => obtain rfl | rfl := handle_lapReset_ok (exec_next_iff.mp h) <;> simp
  case txb => obtain rfl | ⟨b, rfl | rfl⟩ := exec_txb_next h <;> simp
  case hrLapreset => obtain ⟨-, -, rfl⟩ := exec_next_iff.mp h; simp
  case hrSecond => obtain ⟨-, rfl⟩ := exec_next_iff.mp h; simp
  case hRsvd => exact (exec_next_iff.mp h).elim
  all_goals obtain rfl := exec_next_iff.mp h; simp

/-! ## What a step does, whoever moves -/

/-- The decoded dispatcher operation is `TXB` exactly while a line is being sent (30_encoding.md R82). -/
theorem decodeD_txb_iff {s : State} {i : Instr} (h : decodeD (dword s) = .ok i) : i = .txb ↔ s.ds = .emit := by
  have hw : ∀ w : DWord, decodeD w = .ok .txb ↔ 8 ≤ w.toNat := by decide
  have hi : i = .txb ↔ 8 ≤ (dword s).toNat := by rw [← hw, h, Except.ok.injEq]
  rw [hi, dword_toNat]
  have hT := s.tIF.toNat_lt; have hA := s.aIF.toNat_lt; have hB := s.bIF.toNat_lt
  cases s.ds <;> simp [DispState.code] <;> omega

/-- No handle word decodes to `TXB` (30_encoding.md R85). -/
theorem decodeH_ne_txb : ∀ w : HWord, decodeH w ≠ .ok .txb := by decide

/-- The model's own fields, which are no registers: the schedule, the sink's answer, the draws (log entries 1 and 2). -/
def State.setModelFields (l : List Input) (r : Bool) (n : Nat) (s : State) : State :=
  { s with inputs := l, txReady := r, draws := n }

/-- Everything a step that answers a next state can be, by the agent that moves: an operation of the dispatcher or of a
direct call, a clock cycle, a step of the environment, a reset, or a step of the foreground. Each starts from the state
with only the model's own fields moved on. -/
theorem step_next_agents {s t : State} (hstep : step s = .next t) : ∃ l r n,
    (∃ i, (i = .txb ↔ s.ds = .emit) ∧ exec i (s.setModelFields l r n) = .next t) ∨
    (∃ i a b u, (i = .txb ↔ s.ds = .emit) ∧ s.inputs = .clk a b r :: l ∧ exec i (s.setModelFields l r n) = .next u ∧
      t = clockEdge a b u) ∨
    (s.inputs = .ovf :: l ∧ t = ovf (s.setModelFields l r n)) ∨
    (∃ v, s.inputs = .sampleA v :: l ∧ t = sampleA v (s.setModelFields l r n)) ∨
    (∃ v, s.inputs = .sampleB v :: l ∧ t = sampleB v (s.setModelFields l r n)) ∨
    t = (s.setModelFields l r n).resetRegs ∨
    t = s.setModelFields l r n := by
  obtain ⟨i, hi, ⟨-, h⟩ | ⟨r, l, -, h⟩ | ⟨a, b, r, l, u, hin, h, ht⟩⟩ | ⟨l, hin, ht⟩ | ⟨v, l, hin, ht⟩ |
    ⟨v, l, hin, ht⟩ | ⟨l, -, ht⟩ | ⟨l, -, ht⟩ | ⟨ev, l, i, -, hds, hi, h⟩ := step_next_cases hstep
  · exact ⟨s.inputs, Config.sinkReady s.draws, s.draws + 1, .inl ⟨i, decodeD_txb_iff hi, h⟩⟩
  · exact ⟨l, r, s.draws, .inl ⟨i, decodeD_txb_iff hi, h⟩⟩
  · exact ⟨l, r, s.draws, .inr (.inl ⟨i, a, b, u, decodeD_txb_iff hi, hin, h, ht⟩)⟩
  all_goals refine ⟨l, s.txReady, s.draws, ?_⟩
  · exact .inr (.inr (.inl ⟨hin, ht⟩))
  · exact .inr (.inr (.inr (.inl ⟨v, hin, ht⟩)))
  · exact .inr (.inr (.inr (.inr (.inl ⟨v, hin, ht⟩))))
  · exact .inr (.inr (.inr (.inr (.inr (.inl ht)))))
  · exact .inr (.inr (.inr (.inr (.inr (.inr ht)))))
  · have hne : i ≠ .txb := fun e => decodeH_ne_txb _ (e ▸ hi)
    exact .inl ⟨i, by simp [hne, hds], h⟩

/-- The environment's part of a clock cycle, field by field (70_reset_and_hazards.md R280). -/
theorem clockEdge_eq (a b : Bool) (s : State) :
    clockEdge a b s = { s with
      tIF := s.tIF || overflowDue s.impl, aIF := s.aIF || fallingEdge s.la s.impl.a2, la := s.impl.a2,
      bIF := s.bIF || fallingEdge s.lb s.impl.b2, lb := s.impl.b2, impl := s.impl.tick a b } := by
  unfold clockEdge
  cases h : overflowDue s.impl <;> simp [ovf, sampleA, sampleB, State.setImpl]

/-! ## The logs -/

/-- The logs of `t` extend those of `s`, the byte log by at most one byte (10_state.md R37, 45_text_sink.md R209). -/
def LogsGrow (s t : State) : Prop :=
  s.txlog <+: t.txlog ∧ t.txlog.length ≤ s.txlog.length + 1 ∧ s.dispLog <+: t.dispLog

theorem LogsGrow.of_eq {s t : State} (htx : t.txlog = s.txlog) (hdisp : t.dispLog = s.dispLog) : LogsGrow s t := by
  simp [LogsGrow, htx, hdisp]

theorem exec_logsGrow {i : Instr} {s t : State} (h : exec i s = .next t) : LogsGrow s t := by
  obtain ⟨-, hdisp, -, -, htx, -⟩ := eachRegisterHasItsWriters i s t h
  by_cases hi : i = .svcTick
  · subst hi
    obtain ⟨p, q, k, n, c, d, rfl⟩ := exec_svcTick_next h
    simp [LogsGrow]
  · obtain ⟨-, -, -, -, -, hdisp⟩ := hdisp hi
    by_cases hi : i = .txb
    · subst hi
      obtain rfl | ⟨b, rfl | rfl⟩ := exec_txb_next h <;> simp [LogsGrow]
    · exact .of_eq (htx hi) hdisp

/-- Settles O50: only an operation writes a log; the other agents leave them alone. -/
theorem logsOnlyGrow : Obligations.LogsOnlyGrow := by
  intro s t hstep
  obtain ⟨l, r, n, ⟨i, -, h⟩ | ⟨i, a, b, u, -, -, h, rfl⟩ | ⟨-, rfl⟩ | ⟨v, -, rfl⟩ | ⟨v, -, rfl⟩ | rfl | rfl⟩ :=
    step_next_agents hstep
  · exact exec_logsGrow (s := s.setModelFields l r n) h
  · rw [clockEdge_eq]
    exact exec_logsGrow (s := s.setModelFields l r n) (t := u) h
  all_goals exact LogsGrow.of_eq rfl rfl

/-! ## The pending flags -/

/-- No operation sets a flag (10_state.md R44). -/
theorem pending_of_exec {i : Instr} {s t : State} (h : exec i s = .next t) {src : Source}
    (ht : t.pending src = true) : s.pending src = true := by
  obtain ⟨-, htick, hA, hB, -⟩ := eachRegisterHasItsWriters i s t h
  cases src <;> simp only [State.pending] at ht ⊢
  case tick =>
    by_cases hi : i = .svcTick
    · subst hi
      obtain ⟨p, q, k, n, c, d, rfl⟩ := exec_svcTick_next h
      simp at ht
    · exact (htick hi).1 ▸ ht
  case edgeA =>
    by_cases hi : i = .svcEdgeA
    · subst hi
      obtain ⟨x, rfl⟩ := handle_toggle_ok (exec_next_iff.mp h)
      simp at ht
    · exact hA hi ▸ ht
  case edgeB =>
    by_cases hi : i = .svcEdgeB
    · subst hi
      obtain rfl | rfl := handle_lapReset_ok (exec_next_iff.mp h) <;> simp at ht
    · exact hB hi ▸ ht

/-- In state `s`, does this entry of the schedule fire the source? (43_timebase.md R160, R165; 44_edge_events.md R180,
R188) -/
def fires (src : Source) (x : Input) (s : State) : Bool :=
  match src, x with
  | .tick, .ovf => true
  | .tick, .clk _ _ _ => overflowDue s.impl
  | .edgeA, .sampleA v => fallingEdge s.la v
  | .edgeA, .clk _ _ _ => fallingEdge s.la s.impl.a2
  | .edgeB, .sampleB v => fallingEdge s.lb v
  | .edgeB, .clk _ _ _ => fallingEdge s.lb s.impl.b2
  | _, _ => false

theorem pending_ovf (src : Source) (s : State) : (ovf s).pending src = (s.pending src || fires src .ovf s) := by
  cases src <;> simp [State.pending, fires]

theorem pending_sampleA (src : Source) (v : Bool) (s : State) :
    (sampleA v s).pending src = (s.pending src || fires src (.sampleA v) s) := by
  cases src <;> simp [State.pending, fires]

theorem pending_sampleB (src : Source) (v : Bool) (s : State) :
    (sampleB v s).pending src = (s.pending src || fires src (.sampleB v) s) := by
  cases src <;> simp [State.pending, fires]

/-- The dispatcher's part of a cycle leaves alone what decides whether a source fires in it. -/
theorem pending_clockEdge_exec {i : Instr} {s u : State} (h : exec i s = .next u) (src : Source) (a b r : Bool) :
    (clockEdge a b u).pending src = (u.pending src || fires src (.clk a b r) s) := by
  obtain ⟨⟨hla, hlb, himpl, -⟩, -⟩ := eachRegisterHasItsWriters i s u h
  rw [clockEdge_eq]
  cases src <;> simp only [State.pending, fires, hla, hlb, himpl]

@[simp] theorem pending_setModelFields (src : Source) (l : List Input) (r : Bool) (n : Nat) (s : State) :
    (s.setModelFields l r n).pending src = s.pending src := by cases src <;> rfl

@[simp] theorem fires_setModelFields (src : Source) (x : Input) (l : List Input) (r : Bool) (n : Nat) (s : State) :
    fires src x (s.setModelFields l r n) = fires src x s := by cases src <;> cases x <;> rfl

/-- A flag rises only in a step whose entry of the schedule fires its source (10_state.md R44). -/
theorem fires_of_step {src : Source} {s t : State} (hstep : step s = .next t) (hs : s.pending src = false)
    (ht : t.pending src = true) : ∃ x rest, s.inputs = x :: rest ∧ fires src x s = true := by
  have not_exec {i l r n u} (h : exec i (s.setModelFields l r n) = .next u) : u.pending src = false := by
    by_contra hu
    have := pending_of_exec h (eq_true_of_ne_false hu)
    simp [hs] at this
  obtain ⟨l, r, n, ⟨i, -, h⟩ | ⟨i, a, b, u, -, hin, h, rfl⟩ | ⟨hin, rfl⟩ | ⟨v, hin, rfl⟩ | ⟨v, hin, rfl⟩ | rfl | rfl⟩ :=
    step_next_agents hstep
  · simp [not_exec h] at ht
  · exact ⟨_, l, hin, by simpa [pending_clockEdge_exec h src a b r, not_exec h] using ht⟩
  · exact ⟨_, l, hin, by simpa [pending_ovf, hs] using ht⟩
  · exact ⟨_, l, hin, by simpa [pending_sampleA, hs] using ht⟩
  · exact ⟨_, l, hin, by simpa [pending_sampleB, hs] using ht⟩
  · cases src <;> cases ht
  · simp [hs] at ht

theorem fallingEdge_eq_true {stored v : Bool} : fallingEdge stored v = true ↔ stored = true ∧ v = false := by
  simp [fallingEdge]

theorem fires_tick {x : Input} {s : State} (h : fires .tick x s = true) :
    x = .ovf ∨ ∃ a b r, x = .clk a b r ∧ s.impl.tcnt + 1 = Config.tickPeriod := by
  cases x
  case ovf => exact .inl rfl
  case clk a b r => exact .inr ⟨a, b, r, rfl, by simpa [fires, overflowDue] using h⟩
  all_goals cases h

theorem fires_edgeA {x : Input} {s : State} (h : fires .edgeA x s = true) :
    s.la = true ∧ (x = .sampleA false ∨ ∃ a b r, x = .clk a b r ∧ s.impl.a2 = false) := by
  cases x
  case sampleA v => obtain ⟨hl, rfl⟩ := fallingEdge_eq_true.mp h; exact ⟨hl, .inl rfl⟩
  case clk a b r => obtain ⟨hl, h2⟩ := fallingEdge_eq_true.mp h; exact ⟨hl, .inr ⟨a, b, r, rfl, h2⟩⟩
  all_goals cases h

theorem fires_edgeB {x : Input} {s : State} (h : fires .edgeB x s = true) :
    s.lb = true ∧ (x = .sampleB false ∨ ∃ a b r, x = .clk a b r ∧ s.impl.b2 = false) := by
  cases x
  case sampleB v => obtain ⟨hl, rfl⟩ := fallingEdge_eq_true.mp h; exact ⟨hl, .inl rfl⟩
  case clk a b r => obtain ⟨hl, h2⟩ := fallingEdge_eq_true.mp h; exact ⟨hl, .inr ⟨a, b, r, rfl, h2⟩⟩
  all_goals cases h

/-- Settles O12: the entry that fires the source, read off for each of the three. -/
theorem flagRisesOnlyWhenItsSourceFires : Obligations.FlagRisesOnlyWhenItsSourceFires := by
  intro s t h
  refine ⟨fun hs ht => ?_, fun hs ht => ?_, fun hs ht => ?_⟩
  · obtain ⟨x, rest, hin, hx⟩ := fires_of_step (src := .tick) h hs ht
    obtain rfl | ⟨a, b, r, rfl, hdue⟩ := fires_tick hx
    · exact .inl ⟨rest, hin⟩
    · exact .inr ⟨a, b, r, rest, hin, hdue⟩
  · obtain ⟨x, rest, hin, hx⟩ := fires_of_step (src := .edgeA) h hs ht
    obtain ⟨hl, rfl | ⟨a, b, r, rfl, h2⟩⟩ := fires_edgeA hx
    · exact ⟨hl, .inl ⟨rest, hin⟩⟩
    · exact ⟨hl, .inr ⟨a, b, r, rest, hin, h2⟩⟩
  · obtain ⟨x, rest, hin, hx⟩ := fires_of_step (src := .edgeB) h hs ht
    obtain ⟨hl, rfl | ⟨a, b, r, rfl, h2⟩⟩ := fires_edgeB hx
    · exact ⟨hl, .inl ⟨rest, hin⟩⟩
    · exact ⟨hl, .inr ⟨a, b, r, rest, hin, h2⟩⟩

/-! ## Reset -/

theorem registersZero_resetRegs (s : State) : RegistersZero s.resetRegs := by simp [RegistersZero]

/-- Settles O18: the state the model starts from is itself the reset of a state. -/
theorem everyRegisterIsZeroAfterReset : Obligations.EveryRegisterIsZeroAfterReset :=
  ⟨registersZero_resetRegs State.reset, fun _ _ h => ⟨_, step_rst h, registersZero_resetRegs _⟩⟩

/-- The invariant holds after a reset of any state: it speaks of the logs only while a digit is lit or a line is sent. -/
theorem machineInv_resetRegs (s : State) : MachineInv s.resetRegs := by
  have hperiod : 0 < Config.tickPeriod := lt_max_of_lt_left Nat.one_pos
  refine ⟨⟨?_, ?_, ?_, ?_, fun _ => rfl, ?_, hperiod⟩, ?_, .inl ⟨rfl, rfl, rfl⟩, fun h => (by simp at h)⟩
  all_goals simp [BufferInv, DigitsOk, Clock.InRange]

/-- Settles O51: as for a reset of any state. -/
theorem invariantHoldsAtReset : Obligations.InvariantHoldsAtReset := machineInv_resetRegs State.reset

/-! ## The invariant -/

/-- `ADVANCE` keeps the Clock in the ranges of its mode (41_clock.md R121, R122). -/
theorem advanceClock_inRange {m : RolloverMode} {c : Clock} (h : c.InRange m) : (advanceClock m c).InRange m := by
  obtain ⟨hs, hm, hh⟩ := h
  cases m <;> simp only [advanceClock, advanceCorrected, advanceSource] <;> split_ifs
  all_goals
    simp only [Clock.InRange, secTop, minTop, hourTop, Config.secMax, Config.minMax, Config.hourMax, BitVec.toNat_add,
      BitVec.ofNat_eq_ofNat, BitVec.toNat_ofNat] at *
    omega

/-- There is no buffer element above index 5 (20_memory.md R61). -/
theorem digits_get?_eq_none (d : Digits) {i : Nat} (h : 6 ≤ i) : d.get? i = none := by
  obtain ⟨j, rfl⟩ := Nat.exists_eq_add_of_le' h
  rfl

/-- The line has no fourteenth byte (30_encoding.md R91). -/
theorem lapByte_of_ge (d : Digits) {k : Nat} (h : 13 ≤ k) : lapByte d k = .error .byteIndexOutOfRange := by
  simp (disch := omega) only [lapByte, if_neg, digits_get?_eq_none]

/-- Bytes 5 to 10 of `TXB` are characters of buffer elements (20_memory.md R63). -/
theorem lapByte_digit {d : Digits} {k : Nat} {b : Byte} (h5 : 5 ≤ k) (h10 : k ≤ 10) (h : lapByte d k = .ok b) :
    ∃ x, d.get? (k - 5) = some x ∧ b = charOf x := by
  obtain ⟨x, hx⟩ := digits_get?_isSome (d := d) (show k - 5 < 6 by omega)
  simp (disch := omega) only [lapByte, if_neg, hx] at h
  split at h
  · cases h; exact ⟨x, hx, rfl⟩
  · cases h

/-- The buffer elements stand in the line from byte 5 on (30_encoding.md R91). -/
theorem lapLine_digit {d : Digits} {i : Nat} {x : Digit} (h : d.get? i = some x) :
    (lapLine d)[i + 5]? = some (charOf x) := by
  match i, h with
  | 0, h | 1, h | 2, h | 3, h | 4, h | 5, h => cases h; rfl

/-- A byte of `TXB` is the byte of the line at its index (20_memory.md R63, 30_encoding.md R91). -/
theorem lapLine_getElem?_of_lapByte {d : Digits} {k : Nat} {b : Byte} (h : lapByte d k = .ok b) :
    (lapLine d)[k]? = some b := by
  have hk : k < 13 := by
    by_contra hge
    rw [lapByte_of_ge d (Nat.not_lt.mp hge)] at h
    cases h
  by_cases hdigit : 5 ≤ k ∧ k ≤ 10
  · obtain ⟨h5, h10⟩ := hdigit
    obtain ⟨x, hx, rfl⟩ := lapByte_digit h5 h10 h
    simpa [Nat.sub_add_cancel h5] using lapLine_digit hx
  · obtain hlt | hgt : k < 5 ∨ 10 < k := by omega
    all_goals interval_cases k <;> simpa [lapByte, lapLine] using h

/-- In IDLE the Clock may take any value in range, if the buffer is formatted from it. -/
theorem machineInv_format_setClock {s : State} {c : Clock} (h : MachineInv s) (hds : s.ds = .idle)
    (hc : c.InRange Config.rolloverMode) : MachineInv (format (s.setClock c)) := by
  obtain ⟨⟨hdiv, hcur, -, htxi, hidle, -, htcnt⟩, -, hdisp, -⟩ := h
  refine ⟨⟨hdiv, hcur, formatOf_digitsOk c, htxi, hidle, hc, htcnt⟩, rfl, hdisp, fun he => ?_⟩
  simp [hds] at he

theorem machineInv_clkReset {s : State} (h : MachineInv s) (hds : s.ds = .idle) : MachineInv (clkReset s) :=
  machineInv_format_setClock h hds (by decide)

/-- At the start of a line no byte of it has been sent. -/
theorem machineInv_enterEmit {s : State} (h : MachineInv s) : MachineInv s.enterEmit := by
  obtain ⟨⟨hdiv, hcur, hdb, -, -, hclock, htcnt⟩, hbuf, hdisp, -⟩ := h
  refine ⟨⟨hdiv, hcur, hdb, ?_, fun _ => rfl, hclock, htcnt⟩, hbuf, hdisp, fun _ => ?_⟩ <;> simp

theorem machineInv_setDiv {s : State} (h : MachineInv s) {n : BitVec 8} (hn : n.toNat ≤ 149) :
    MachineInv (s.setDiv n) := by
  obtain ⟨⟨-, hrange⟩, hrest⟩ := h
  exact ⟨⟨hn, hrange⟩, hrest⟩

theorem machineInv_takeInterrupt {s : State} (h : MachineInv s) (src : Source) : MachineInv (s.takeInterrupt src) := by
  cases src <;> exact h

theorem handle_keeps_machineInv {s t : State} {ev : Event} (hinv : MachineInv s) (h : handle ev s = .ok t) :
    MachineInv t := by
  obtain ⟨hds, h⟩ := handle_ok_iff.mp h
  cases hst : s.st <;> cases ev <;> simp only [hst] at h
  case stopped.lapReset => exact h ▸ machineInv_clkReset hinv hds
  case running.lapReset => exact h.2 ▸ machineInv_enterEmit hinv
  case running.second => exact h.2 ▸ machineInv_format_setClock hinv hds (advanceClock_inRange h.1)
  all_goals subst h; exact hinv

/-- After a display step the lit digit is the one before the cursor (10_state.md R43, 42_display_mux.md R140). -/
theorem refresh_keeps_machineInv {s t : State} (hinv : MachineInv s) (h : refresh s = .ok t) : MachineInv t := by
  obtain ⟨⟨hdiv, -, hrange⟩, hbuf, -, hline⟩ := hinv
  obtain ⟨d, p, hcur, -, hp, rfl⟩ := refresh_ok_iff.mp h
  have hnext : (nextSlot 6 s.cur.toNat).toNat = (s.cur.toNat + 1) % 6 := nextSlot_toNat
  refine ⟨⟨hdiv, ?_, hrange⟩, hbuf, .inr ⟨?_, ⟨d, hp⟩, ?_⟩, hline⟩
  · simp only [State.showDigit_cur, hnext]
    omega
  · have hback : ((s.cur.toNat + 1) % 6 + 5) % 6 = s.cur.toNat := by omega
    simp only [State.showDigit_cur, State.showDigit_sel, hnext, hback]
  · simp

theorem divStep_keeps_machineInv {s t : State} (hinv : MachineInv s) (h : divStep s = .ok t) : MachineInv t := by
  obtain ⟨hlt, rfl⟩ | ⟨-, h⟩ := divStep_ok_iff.mp h
  · exact machineInv_setDiv hinv (by simp [BitVec.toNat_add]; omega)
  · exact handle_keeps_machineInv (machineInv_setDiv hinv (by decide)) h

/-- In EMIT a sent byte makes the first `TXI` bytes of the line the first `TXI + 1` (45_text_sink.md R205, R206). -/
theorem txByte_keeps_machineInv {s t : State} (hinv : MachineInv s) (hds : s.ds = .emit) (h : txByte s = .ok t) :
    MachineInv t := by
  obtain ⟨⟨hdiv, hcur, hdb, htxi, hidle, hclock, htcnt⟩, hbuf, hdisp, hline⟩ := hinv
  obtain ⟨b, hb, ⟨-, rfl⟩ | ⟨hne, rfl⟩⟩ := txByte_ok_iff.mp h
  · refine ⟨⟨hdiv, hcur, hdb, ?_, fun _ => rfl, hclock, htcnt⟩, hbuf, hdisp, fun he => ?_⟩
    · simp
    · simp at he
  · have hnext : (s.txi + 1).toNat = s.txi.toNat + 1 := by simp [BitVec.toNat_add]; omega
    refine ⟨⟨hdiv, hcur, hdb, ?_, fun hi => ?_, hclock, htcnt⟩, hbuf, hdisp, fun _ => ?_⟩
    · simp only [State.nextByte_txi, State.sendByte_txi, hnext]
      omega
    · simp [hds] at hi
    · simp only [State.nextByte_txi, State.sendByte_txi, hnext, State.nextByte_db, State.sendByte_db,
        State.nextByte_txlog, State.sendByte_txlog, List.take_add_one, lapLine_getElem?_of_lapByte hb]
      obtain ⟨sent, hsent⟩ := hline hds
      exact ⟨sent, by simp [← hsent]⟩

/-- An operation the machine selects keeps the invariant; only in EMIT does it select `TXB`, and there nothing else. -/
theorem exec_keeps_machineInv {i : Instr} {s t : State} (hinv : MachineInv s) (hi : i = .txb ↔ s.ds = .emit)
    (h : exec i s = .next t) : MachineInv t := by
  have h := exec_next_iff.mp h
  have hidle (hne : i ≠ .txb) : s.ds = .idle := by
    cases hds : s.ds
    · rfl
    · exact absurd (hi.mpr hds) hne
  cases i
  case svcTick =>
    obtain ⟨u, hu, hd⟩ := h
    exact divStep_keeps_machineInv (refresh_keeps_machineInv (machineInv_takeInterrupt hinv .tick) hu) hd
  case svcEdgeA => exact handle_keeps_machineInv (machineInv_takeInterrupt hinv .edgeA) h
  case svcEdgeB => exact handle_keeps_machineInv (machineInv_takeInterrupt hinv .edgeB) h
  case txb =>
    obtain ⟨-, hbyte⟩ | ⟨-, rfl⟩ := h
    · exact txByte_keeps_machineInv hinv (hi.mp rfl) hbyte
    · exact hinv
  case hsLapreset => exact h ▸ machineInv_clkReset hinv (hidle (by decide))
  case hrLapreset => obtain ⟨-, -, rfl⟩ := h; exact machineInv_enterEmit hinv
  case hrSecond =>
    obtain ⟨hrange, rfl⟩ := h
    exact machineInv_format_setClock hinv (hidle (by decide)) (advanceClock_inRange hrange)
  case hRsvd => exact h.elim
  all_goals obtain rfl := h; exact hinv

/-- The timer's count stays below its period (43_timebase.md R165). -/
theorem tick_tcnt_lt {m : Impl} (h : m.tcnt < Config.tickPeriod) (a b : Bool) :
    (m.tick a b).tcnt < Config.tickPeriod := by
  simp only [Impl.tick, overflowDue, beq_iff_eq]
  split <;> omega

theorem machineInv_clockEdge {s : State} (h : MachineInv s) (a b : Bool) : MachineInv (clockEdge a b s) := by
  obtain ⟨⟨hdiv, hcur, hdb, htxi, hidle, hclock, htcnt⟩, hrest⟩ := h
  rw [clockEdge_eq]
  exact ⟨⟨hdiv, hcur, hdb, htxi, hidle, hclock, tick_tcnt_lt htcnt a b⟩, hrest⟩

/-- Settles O52: by the agent that moves; none of the machine's invariants reads the model's own fields. -/
theorem everyStepKeepsTheInvariant : Obligations.EveryStepKeepsTheInvariant := by
  intro s t hinv hstep
  obtain ⟨l, r, n, h⟩ := step_next_agents hstep
  have hinv : MachineInv (s.setModelFields l r n) := hinv
  obtain ⟨i, hi, h⟩ | ⟨i, a, b, u, hi, -, h, rfl⟩ | ⟨-, rfl⟩ | ⟨v, -, rfl⟩ | ⟨v, -, rfl⟩ | rfl | rfl := h
  · exact exec_keeps_machineInv hinv hi h
  · exact machineInv_clockEdge (exec_keeps_machineInv hinv hi h) a b
  case inr.inr.inr.inr.inr.inl => exact machineInv_resetRegs _
  all_goals exact hinv

end Sys2Proof.Machine
end

section
/-!
SUPPORT. The lap line's index space (20_memory.md R63): `TXB` reads the thirteen bytes of 30_encoding.md R91.
-/
namespace Sys2Proof.Machine

open Sys2Proof.Safety

/-- The line has thirteen bytes, so a list index that answers is below 13 (30_encoding.md R91). -/
theorem lt_of_lapLine_getElem? {d : Digits} {k : Nat} {b : Byte} (h : (lapLine d)[k]? = some b) : k < 13 :=
  (List.getElem?_eq_some_iff.mp h).1

/-- Below index 13 no read of the line faults, if every buffer element is a digit (20_memory.md R63, R66). -/
theorem lapByte_isOk {d : Digits} (hd : DigitsOk d) {k : Nat} (hk : k < 13) : ∃ b, lapByte d k = .ok b := by
  by_cases hdigit : 5 ≤ k ∧ k ≤ 10
  · obtain ⟨x, hx⟩ := digits_get?_isSome (d := d) (show k - 5 < 6 by omega)
    have hx9 : x.toNat ≤ 9 := digits_get?_le hd hx
    refine ⟨charOf x, ?_⟩
    simp (disch := omega) only [lapByte, if_neg, hx, if_pos]
  · obtain hlt | hgt : k < 5 ∨ 10 < k := by omega
    all_goals interval_cases k <;> exact ⟨_, rfl⟩

/-- `TXB`'s read answers exactly the byte of the line at its index (20_memory.md R63, 30_encoding.md R91). -/
theorem lapByte_ok_iff {d : Digits} (hd : DigitsOk d) {k : Nat} {b : Byte} :
    lapByte d k = .ok b ↔ (lapLine d)[k]? = some b := by
  refine ⟨lapLine_getElem?_of_lapByte, fun h => ?_⟩
  obtain ⟨c, hc⟩ := lapByte_isOk hd (lt_of_lapLine_getElem? h)
  have hcb : c = b := Option.some.inj ((lapLine_getElem?_of_lapByte hc).symm.trans h)
  exact hcb ▸ hc

/-- Settles O46: no read below 13 faults and each answers the line's byte, which is unique; from 13 on there is none. -/
theorem lapLineHasThirteenBytes : Obligations.LapLineHasThirteenBytes :=
  fun d _ hd => ⟨fun _ => lapByte_ok_iff hd, lapByte_of_ge d⟩

end Sys2Proof.Machine
end

section
/-!
SUPPORT. The two decoders (30_encoding.md R82, R85): an operation is selected exactly by its own row, so the words an
operation encodes to decode to it.
-/
namespace Sys2Proof

/-- The facts of `Laws.RowWord` for every operation. -/
theorem rowWord_statement (i : Instr) : Laws.RowWord.Statement i :=
  match i with
  | .wait => Laws.RowWord.wait
  | .svcTick => Laws.RowWord.svcTick
  | .svcEdgeA => Laws.RowWord.svcEdgeA
  | .svcEdgeB => Laws.RowWord.svcEdgeB
  | .txb => Laws.RowWord.txb
  | .hsToggle => Laws.RowWord.hsToggle
  | .hsLapreset => Laws.RowWord.hsLapreset
  | .hsSecond => Laws.RowWord.hsSecond
  | .hrToggle => Laws.RowWord.hrToggle
  | .hrLapreset => Laws.RowWord.hrLapreset
  | .hrSecond => Laws.RowWord.hrSecond
  | .hRsvd => Laws.RowWord.hRsvd

theorem hits_iff {r : OpRow} {w : Nat} : r.hits w = true ↔ w &&& r.mask = r.pattern := beq_iff_eq

/-- A row in the table of a format is of that format, and it is the row of its operation. -/
theorem row_of_mem_rows {f : Format} {r : OpRow} (h : r ∈ f.rows) : r.format = f ∧ r.op.row = r := by
  have hrows : ∀ q ∈ f.rows, q.format = f ∧ q.op.row = q := by cases f <;> decide
  exact hrows r h

/-- Two rows of one format that match one word are the same row (30_encoding.md R82, R85). -/
theorem eq_of_hits {f : Format} {r q : OpRow} {w : Nat} (hw : w < 2 ^ f.width) (hr : r ∈ f.rows) (hq : q ∈ f.rows)
    (hrw : r.hits w = true) (hqw : q.hits w = true) : r = q := by
  have hpairwise : f.rows.Pairwise (fun r q => ¬ (r.hits w = true ∧ q.hits w = true)) := by
    cases f
    · exact formatDRows_disjoint.imp fun h => h w hw
    · exact formatHRows_disjoint.imp fun h => h w hw
  have hsymm : Std.Symm (fun r q : OpRow => ¬ (r.hits w = true ∧ q.hits w = true)) := ⟨fun _ _ h h' => h h'.symm⟩
  by_contra hne
  exact hpairwise.forall hr hq hne ⟨hrw, hqw⟩

/-- The decoder in full: the operation of the row that the word matches, wherever the row stands in the table. -/
theorem decodeWord_ok_iff {f : Format} {w : Nat} {i : Instr} :
    decodeWord f w = .ok i ↔ w < 2 ^ f.width ∧ ∃ r ∈ f.rows, r.hits w = true ∧ r.op = i := by
  by_cases hw : w < 2 ^ f.width
  · cases hfind : f.rows.find? (fun r => r.hits w) with
    | none =>
      have hno := List.find?_eq_none.mp hfind
      simp only [decodeWord, hw, hfind, if_true, true_and]
      exact ⟨fun h => (by cases h), fun ⟨r, hr, hrw, _⟩ => absurd hrw (hno r hr)⟩
    | some r =>
      have hr : r ∈ f.rows := List.mem_of_find?_eq_some hfind
      have hrw : r.hits w = true := List.find?_some (p := fun r : OpRow => r.hits w) hfind
      simp only [decodeWord, hw, hfind, if_true, true_and, Except.ok.injEq]
      refine ⟨fun h => ⟨r, hr, hrw, h⟩, ?_⟩
      rintro ⟨q, hq, hqw, rfl⟩
      rw [eq_of_hits hw hr hq hrw hqw]
  · rw [decodeWord_tooWide (Nat.not_lt.mp hw)]
    exact ⟨fun h => (by cases h), fun h => absurd h.1 hw⟩

/-- Settles O2: among the rows of its format an operation has exactly its own. -/
theorem wordSelectsOperationIffItsPatternMatches : Obligations.WordSelectsOperationIffItsPatternMatches := by
  intro f w i
  rw [decodeWord_ok_iff]
  refine and_congr_right fun _ => ⟨?_, ?_⟩
  · rintro ⟨r, hr, hrw, rfl⟩
    obtain ⟨hformat, hrow⟩ := row_of_mem_rows hr
    rw [hrow]
    exact ⟨hformat, hits_iff.mp hrw⟩
  · rintro ⟨rfl, hmatch⟩
    obtain ⟨hop, -⟩ := rowWord_statement i
    exact ⟨i.row, row_mem i, hits_iff.mpr hmatch, hop⟩

/-- The bits of a format outside a row's mask: the places of the pattern's letters. -/
theorem letterBits_and_mask {n m : Nat} (hm : m < 2 ^ n) : (2 ^ n - 1 - m) &&& m = 0 := by
  rw [show 2 ^ n - 1 - m = 2 ^ n - (m + 1) by omega]
  refine Nat.eq_of_testBit_eq fun k => ?_
  simp [Nat.testBit_two_pow_sub_succ hm]

/-- The encoder's word fits its format. -/
theorem encode_lt (i : Instr) (letters : Nat) : (encode i letters).2 < 2 ^ (encode i letters).1.width := by
  obtain ⟨-, hpattern, -, -⟩ := rowWord_statement i
  have hpos := Nat.two_pow_pos i.row.format.width
  have hletters : 2 ^ i.row.format.width - 1 - i.row.mask < 2 ^ i.row.format.width := by omega
  exact Nat.or_lt_two_pow hpattern (Nat.and_lt_two_pow _ hletters)

/-- Under the row's mask the encoder's word is the row's pattern, whatever the letters are. -/
theorem encode_and_mask (i : Instr) (letters : Nat) : (encode i letters).2 &&& i.row.mask = i.row.pattern := by
  obtain ⟨-, -, hmask, hpattern⟩ := rowWord_statement i
  simp only [encode]
  rw [Nat.and_or_distrib_right, hpattern, Nat.and_assoc, letterBits_and_mask hmask, Nat.and_zero, Nat.or_zero]

/-- Settles O1: the encoder's word fits the format and matches the operation's row, which is all decoding asks (O2). -/
theorem decodeOfEncodeIsTheOperation : Obligations.DecodeOfEncodeIsTheOperation := fun i letters =>
  (wordSelectsOperationIffItsPatternMatches _ _ i).mpr ⟨encode_lt i letters, rfl, encode_and_mask i letters⟩

/-- Settles O3: the dispatcher's table evaluated at its sixteen words. -/
theorem sixteenDispatcherWords : Obligations.SixteenDispatcherWords := by
  unfold Obligations.SixteenDispatcherWords
  decide

/-- Settles O4: the handle table evaluated at its eight words. -/
theorem eightHandleWords : Obligations.EightHandleWords := by
  unfold Obligations.EightHandleWords
  decide

end Sys2Proof
end

section
/-!
SUPPORT. The bits of the two words (30_encoding.md R81, R84, R87), the direct call of `HANDLE` (R97), and what a run of
display steps shows of the buffer (R89; 42_display_mux.md R140).
-/
namespace Sys2Proof.Machine

open Sys2Proof.Safety

/-! ## The two words and the direct call -/

/-- The dispatcher word bit by bit (30_encoding.md R81). -/
theorem dword_getLsbD (s : State) :
    (dword s).getLsbD 0 = s.tIF ∧ (dword s).getLsbD 1 = s.aIF ∧ (dword s).getLsbD 2 = s.bIF ∧
      (dword s).getLsbD 3 = (s.ds == .emit) := by
  have hds : s.ds.code.getLsbD 0 = (s.ds == .emit) := by cases s.ds <;> rfl
  simp only [dword, BitVec.getLsbD_append]
  simp [-BitVec.getLsbD_eq_getElem, hds]

/-- The handle word bit by bit (30_encoding.md R84). -/
theorem hword_getLsbD (st : ChronoState) (ev : EvCode) :
    (hword st ev).getLsbD 2 = (st == .running) ∧ (hword st ev).getLsbD 1 = ev.getLsbD 1 ∧
      (hword st ev).getLsbD 0 = ev.getLsbD 0 := by
  have hst : st.code.getLsbD 0 = (st == .running) := by cases st <;> rfl
  simp only [hword, BitVec.getLsbD_append]
  simp [-BitVec.getLsbD_eq_getElem, hst]

/-- No event has the reserved code (30_encoding.md R86, R87). -/
theorem event_code_ne_reserved (ev : Event) : ev.code ≠ 0b11 := by cases ev <;> decide

/-- Settles O5: the two words bit by bit; the codes stand in their definitions. -/
theorem bitsOfTheTwoWords : Obligations.BitsOfTheTwoWords :=
  ⟨dword_getLsbD, hword_getLsbD, ⟨rfl, rfl, rfl, rfl⟩, rfl, rfl, rfl, event_code_ne_reserved⟩

/-- In IDLE a direct call runs the operation its handle word decodes to (30_encoding.md R97). -/
theorem handleStep_of_decode {s : State} {ev : EvCode} {i : Instr} (hds : s.ds = .idle)
    (h : decodeH (hword s.st ev) = .ok i) : handleStep ev s = exec i s := by
  have h' : decodeWord .h (hword s.st ev).toNat = .ok i := h
  simp [handleStep, hds, runWord, h']

/-- In EMIT a direct call faults (93_implementation_defined.md U16; log entries 5 and 8). -/
theorem handleStep_emit {s : State} (ev : EvCode) (hds : s.ds = .emit) :
    handleStep ev s = .fault .handleWhileEmitting := by simp [handleStep, hds]

/-- Settles O8: the step is the direct call on the state with the entry taken off, by the dispatcher's state. -/
theorem stepRunsADirectHandleCall : Obligations.StepRunsADirectHandleCall := by
  intro s ev rest hin
  rw [step_handle hin]
  exact ⟨fun i hds hdecode => handleStep_of_decode (s := s.setInputs rest) hds hdecode,
    fun hds => handleStep_emit (s := s.setInputs rest) ev hds⟩

/-! ## Reading the buffer back from the display -/

/-- The pair a display step writes at scan position `p`, if the buffer element there has a pattern (42_display_mux.md
R140). -/
def shownAt (tbl : SegTable) (db : Digits) (p : Nat) : Option (SegPattern × Selector) :=
  (db.get? p).bind fun d => (segLookup tbl d).map fun q => (q, selectorOf p)

/-- What `k` display steps append to the display log: the pairs of the `k` positions from the cursor on, cyclically
(42_display_mux.md R140, R142). -/
theorem refreshTimes_dispLog {tbl : SegTable} {k : Nat} {s t : State} (h : refreshTimes tbl k s = .ok t) :
    t.dispLog.map some =
      s.dispLog.map some ++ (List.range k).map fun j => shownAt tbl s.db ((s.cur.toNat + j) % 6) := by
  induction k generalizing s with
  | zero => cases h; simp
  | succ k ih =>
    cases hstep : refreshWith tbl Config.nSlots s with
    | error e => simp [refreshTimes, hstep] at h
    | ok s' =>
      simp only [refreshTimes, hstep] at h
      obtain ⟨d, q, hcur, hd, hq, rfl⟩ := refreshWith_six_ok_iff.mp hstep
      have hfirst : shownAt tbl s.db (s.cur.toNat % 6) = some (q, selectorOf s.cur.toNat) := by
        simp [shownAt, Nat.mod_eq_of_lt hcur, hd, hq]
      have hcursor (j : Nat) : ((s.cur.toNat + 1) % 6 + j) % 6 = (s.cur.toNat + (j + 1)) % 6 := by omega
      rw [ih h]
      simp [List.range_succ_eq_map, nextSlot_toNat, hfirst, hcursor, Function.comp_def]

/-- With an injective table the pair shown at a position determines the digit there (30_encoding.md R89). -/
theorem digit_eq_of_shownAt_eq {tbl : SegTable} (htbl : SegInjective tbl) {a b : Digits} (ha : DigitsOk a) {p : Nat}
    (hp : p < 6) (h : shownAt tbl a p = shownAt tbl b p) : a.get? p = b.get? p := by
  obtain ⟨d, hd⟩ := digits_get?_isSome (d := a) hp
  obtain ⟨e, he⟩ := digits_get?_isSome (d := b) hp
  simp only [shownAt, hd, he, Option.bind_some] at h
  have hpattern : segLookup tbl d = segLookup tbl e :=
    Option.map_injective (Prod.mk_left_injective (selectorOf p)) h
  rw [hd, he, htbl d e (digits_get?_le ha hd) hpattern]

/-- A buffer is its six elements (20_memory.md R61). -/
theorem digits_ext_get? {a b : Digits} (h : ∀ p < 6, a.get? p = b.get? p) : a = b := by
  cases a; cases b
  simp only [Digits.mk.injEq]
  exact ⟨Option.some.inj (h 0 (by decide)), Option.some.inj (h 1 (by decide)), Option.some.inj (h 2 (by decide)),
    Option.some.inj (h 3 (by decide)), Option.some.inj (h 4 (by decide)), Option.some.inj (h 5 (by decide))⟩

/-- Settles O58: equal logs show equal pairs, six steps from any cursor reach every position, and an injective table
tells the digits apart. -/
theorem injectiveTableReadsBackTheBuffer : Obligations.InjectiveTableReadsBackTheBuffer := by
  intro tbl s t u v htbl hcur htcur hlog hs ht hu hv huv
  have hshown : ∀ j < 6, shownAt tbl s.db ((s.cur.toNat + j) % 6) = shownAt tbl t.db ((s.cur.toNat + j) % 6) := by
    have hsteps := (refreshTimes_dispLog hu).symm.trans ((congrArg _ huv).trans (refreshTimes_dispLog hv))
    rw [hlog, htcur, List.append_cancel_left_eq, List.map_inj_left] at hsteps
    exact fun j hj => hsteps j (List.mem_range.mpr hj)
  refine digits_ext_get? fun p hp => digit_eq_of_shownAt_eq htbl hs hp ?_
  have hreach : (s.cur.toNat + (p + 6 - s.cur.toNat) % 6) % 6 = p := by omega
  exact hreach ▸ hshown ((p + 6 - s.cur.toNat) % 6) (Nat.mod_lt _ (by decide))

end Sys2Proof.Machine
end

section
/-!
SUPPORT. The chronometer machine (40_chronometer_fsm.md): its operations one by one, TOGGLE as an involution, and
`HANDLE` as the decoded transition.
-/
namespace Sys2Proof.Machine

open Sys2Proof.Safety

/-! ## The operations of the handle word -/

/-- Settles O30: the handle word, and the row of `exec` for the operation. -/
theorem toggleStartsAStoppedChronometer : Obligations.ToggleStartsAStoppedChronometer :=
  ⟨by decide, fun _ => exec_next_iff.mpr rfl⟩

/-- Settles O31: the handle word, and the row of `exec` for the operation. -/
theorem toggleStopsARunningChronometer : Obligations.ToggleStopsARunningChronometer :=
  ⟨by decide, fun _ => exec_next_iff.mpr rfl⟩

/-- `CLKRESET` as one update: its `FORMAT` writes the zero digits of the zero Clock (41_clock.md R123, R124). -/
theorem clkReset_eq (s : State) : clkReset s = { s with clock := ⟨0, 0, 0⟩, db := ⟨0, 0, 0, 0, 0, 0⟩ } :=
  congrArg (s.setClock ⟨0, 0, 0⟩).setDb formatOf_zero

/-- Settles O32: the operation is `CLKRESET`. -/
theorem lapResetWhileStoppedZeroesTheClock : Obligations.LapResetWhileStoppedZeroesTheClock :=
  ⟨by decide, fun s => exec_next_iff.mpr (clkReset_eq s).symm⟩

/-- Settles O33: the handle word, and the row of `exec` for the operation. -/
theorem secondWhileStoppedChangesNothing : Obligations.SecondWhileStoppedChangesNothing :=
  ⟨by decide, fun _ => exec_next_iff.mpr rfl⟩

/-- Settles O35: the new Clock is `ADVANCE` of the old one; each clause is one branch of its carry chain. -/
theorem secondWhileRunningAdvancesTheClock : Obligations.SecondWhileRunningAdvancesTheClock := by
  intro s hrange
  refine ⟨advanceCorrected s.clock, exec_next_iff.mpr ⟨hrange, rfl⟩, ?seconds, ?minutes, ?hours, ?wrap⟩
  case seconds => exact fun hss => if_pos hss
  case minutes => intro hss hmm; simp [advanceCorrected, hss, hmm]
  case hours => intro hss hmm hhh; simp [advanceCorrected, hss, hmm, hhh]
  case wrap => intro hss hmm hhh; simp [advanceCorrected, hss, hmm, hhh]

/-- Settles O36: the two reserved handle words, and the meaning of `H.RSVD`. -/
theorem reservedEventCodeFaults : Obligations.ReservedEventCodeFaults :=
  ⟨by decide, by decide, fun _ => rfl⟩

/-! ## `HANDLE` by state and event, and by the handle word -/

/-- The transition of a chronometer state and an event (40_chronometer_fsm.md R100). -/
def transitionOf : ChronoState → Event → Instr
  | .stopped, .toggle => .hsToggle
  | .stopped, .lapReset => .hsLapreset
  | .stopped, .second => .hsSecond
  | .running, .toggle => .hrToggle
  | .running, .lapReset => .hrLapreset
  | .running, .second => .hrSecond

/-- The handle word of a state and an event decodes to their transition (30_encoding.md R84, R85, R87). -/
theorem decodeH_hword_code (st : ChronoState) (ev : Event) :
    decodeH (hword st ev.code) = .ok (transitionOf st ev) := by
  cases st <;> cases ev <;> decide

/-- In IDLE, `HANDLE` runs the transition of `ST` and the event. -/
theorem finish_handle_idle {s : State} (ev : Event) (hds : s.ds = .idle) :
    finish (handle ev s) = exec (transitionOf s.st ev) s := by
  simp only [handle, hds]
  cases s.st <;> cases ev <;> rfl

/-- In EMIT, `HANDLE` faults (93_implementation_defined.md U16; log entry 8). -/
theorem handle_emit {s : State} (ev : Event) (hds : s.ds = .emit) : handle ev s = .error .handleWhileEmitting := by
  simp only [handle, hds]

/-- Settles O37: in IDLE both run the transition of `ST` and the event, in EMIT both fault. -/
theorem handleIsTheDecodedTransition : Obligations.HandleIsTheDecodedTransition := by
  intro ev s
  cases hds : s.ds with
  | idle => rw [finish_handle_idle ev hds, handleStep_of_decode hds (decodeH_hword_code s.st ev)]
  | emit => rw [handle_emit ev hds, handleStep_emit ev.code hds, finish_error]

/-! ## TOGGLE -/

theorem toggled_ne (st : ChronoState) : toggled st ≠ st := by cases st <;> decide

@[simp] theorem toggled_toggled (st : ChronoState) : toggled (toggled st) = st := by cases st <;> rfl

/-- In IDLE, TOGGLE writes the other chronometer state (40_chronometer_fsm.md R101, R104, R108). -/
theorem handle_toggle_idle {s : State} (hds : s.ds = .idle) : handle .toggle s = .ok (s.setSt (toggled s.st)) := by
  refine handle_ok_iff.mpr ⟨hds, ?_⟩
  cases s.st <;> rfl

/-- Settles O38: TOGGLE stays in IDLE and applies `toggled`, an involution without fixed point. -/
theorem toggleIsAnInvolution : Obligations.ToggleIsAnInvolution := by
  intro s hds
  refine ⟨s.setSt (toggled s.st), handle_toggle_idle hds, toggled_ne s.st, ?_⟩
  have hback : (s.setSt (toggled s.st)).setSt (toggled (toggled s.st)) = s := by rw [toggled_toggled]; rfl
  exact (handle_toggle_idle (s := s.setSt (toggled s.st)) hds).trans (congrArg Except.ok hback)

end Sys2Proof.Machine
end

section
/-!
SUPPORT. The Clock (41_clock.md): `ADVANCE` as a carry chain on the top values of its mode, the Clock's cycle, `FORMAT`
and `CLKRESET`.
-/
namespace Sys2Proof.Machine

open Sys2Proof.Safety

/-! ## `ADVANCE` as one carry chain -/

/-- Both modes run one carry chain, each on its own top values: not `value > BOUND` (R122) is `value < BOUND + 1`, as
`corrected` mode asks of its bound (R121). -/
theorem advanceClock_eq_carryChain (m : RolloverMode) (c : Clock) :
    advanceClock m c =
      if c.ss.toNat < secTop m then { c with ss := c.ss + 1 }
      else if c.mm.toNat < minTop m then { c with ss := 0, mm := c.mm + 1 }
      else if c.hh.toNat < hourTop m then { hh := c.hh + 1, mm := 0, ss := 0 }
      else ⟨0, 0, 0⟩ := by
  cases m with
  | corrected => rfl
  | sourceCompatible =>
    have hbelow {x b : Nat} : x < b + 1 ↔ ¬ x > b := by omega
    simp only [advanceClock, advanceSource, secTop, minTop, hourTop, hbelow, ite_not]

/-- A counter below its top value counts without overflow (10_state.md R31 to R33). -/
theorem counters_succ_toNat (m : RolloverMode) (c : Clock) :
    (c.ss.toNat < secTop m → (c.ss + 1).toNat = c.ss.toNat + 1) ∧
      (c.mm.toNat < minTop m → (c.mm + 1).toNat = c.mm.toNat + 1) ∧
      (c.hh.toNat < hourTop m → (c.hh + 1).toNat = c.hh.toNat + 1) := by
  have hsec : secTop m < 63 := by cases m <;> decide
  have hmin : minTop m < 63 := by cases m <;> decide
  have hhour : hourTop m < 15 := by cases m <;> decide
  refine ⟨fun h => ?_, fun h => ?_, fun h => ?_⟩ <;> exact BitVec.toNat_add_of_lt (by simp; omega)

/-! ## The Clock's cycle -/

/-- The position of a legal value is below the length of the cycle. -/
theorem clockIndex_lt {m : RolloverMode} {c : Clock} (h : c.InRange m) : clockIndex m c < clockStates m := by
  obtain ⟨hss, hmm, hhh⟩ := h
  calc clockIndex m c ≤ (hourTop m * (minTop m + 1) + minTop m) * (secTop m + 1) + secTop m := by
        unfold clockIndex; gcongr
    _ < clockStates m := by unfold clockStates; linarith

/-- A numeral to the base `n + 1` determines its last digit and the rest. -/
theorem numeral_inj {n a b x y : Nat} (hx : x ≤ n) (hy : y ≤ n) (h : a * (n + 1) + x = b * (n + 1) + y) :
    a = b ∧ x = y := by
  have hdigit : x = y := by
    simpa [Nat.mul_add_mod_self_right, Nat.mod_eq_of_lt, Nat.lt_succ_of_le, hx, hy] using congrArg (· % (n + 1)) h
  subst hdigit
  exact ⟨Nat.eq_of_mul_eq_mul_right n.succ_pos (Nat.add_right_cancel h), rfl⟩

/-- A legal value is determined by its position, a numeral whose digits are the counters. -/
theorem clock_eq_of_clockIndex_eq {m : RolloverMode} {c d : Clock} (hc : c.InRange m) (hd : d.InRange m)
    (h : clockIndex m c = clockIndex m d) : c = d := by
  obtain ⟨hcs, hcm, -⟩ := hc
  obtain ⟨hds, hdm, -⟩ := hd
  obtain ⟨hrest, hss⟩ := numeral_inj hcs hds h
  obtain ⟨hhh, hmm⟩ := numeral_inj hcm hdm hrest
  cases c; cases d
  simp only [Clock.mk.injEq]
  exact ⟨BitVec.eq_of_toNat_eq hhh, BitVec.eq_of_toNat_eq hmm, BitVec.eq_of_toNat_eq hss⟩

/-- `ADVANCE` adds 1 to the position, or leaves the last position for the first (41_clock.md R121, R122). -/
theorem clockIndex_advanceClock_cases {m : RolloverMode} {c : Clock} (h : c.InRange m) :
    clockIndex m (advanceClock m c) = clockIndex m c + 1 ∨
      clockIndex m (advanceClock m c) = 0 ∧ clockIndex m c + 1 = clockStates m := by
  obtain ⟨hss, hmm, hhh⟩ := h
  obtain ⟨hsecSucc, hminSucc, hhourSucc⟩ := counters_succ_toNat m c
  have hzero : (0 : BitVec 6).toNat = 0 := rfl
  rw [advanceClock_eq_carryChain]
  split_ifs with hsec hmin hhour
  · left
    simp only [clockIndex, hsecSucc hsec, Nat.add_assoc]
  · left
    have hssTop : c.ss.toNat = secTop m := by omega
    simp only [clockIndex, hminSucc hmin, hssTop, hzero]
    ring
  · left
    have hssTop : c.ss.toNat = secTop m := by omega
    have hmmTop : c.mm.toNat = minTop m := by omega
    simp only [clockIndex, hhourSucc hhour, hmmTop, hssTop, hzero]
    ring
  · right
    have hssTop : c.ss.toNat = secTop m := by omega
    have hmmTop : c.mm.toNat = minTop m := by omega
    have hhhTop : c.hh.toNat = hourTop m := by omega
    refine ⟨by simp [clockIndex], ?_⟩
    simp only [clockIndex, clockStates, hhhTop, hmmTop, hssTop]
    ring

/-- `ADVANCE` moves one place along the cycle. -/
theorem clockIndex_advanceClock {m : RolloverMode} {c : Clock} (h : c.InRange m) :
    clockIndex m (advanceClock m c) = (clockIndex m c + 1) % clockStates m := by
  obtain hnext | ⟨hzero, hlast⟩ := clockIndex_advanceClock_cases h
  · rw [← hnext, Nat.mod_eq_of_lt (clockIndex_lt (advanceClock_inRange h))]
  · rw [hzero, hlast, Nat.mod_self]

/-- Settles O39: the two lengths are computed; range and position are the two lemmas about `ADVANCE`. -/
theorem advanceMovesOnePlaceInTheClockCycle : Obligations.AdvanceMovesOnePlaceInTheClockCycle :=
  ⟨rfl, rfl, fun _ _ h => ⟨advanceClock_inRange h, clockIndex_advanceClock h⟩⟩

/-- `n` calls of `ADVANCE` keep the ranges and move `n` places along the cycle. -/
theorem advanceClock_iterate {m : RolloverMode} {c : Clock} (h : c.InRange m) (n : Nat) :
    ((advanceClock m)^[n] c).InRange m ∧
      clockIndex m ((advanceClock m)^[n] c) = (clockIndex m c + n) % clockStates m := by
  induction n with
  | zero => exact ⟨h, (Nat.mod_eq_of_lt (clockIndex_lt h)).symm⟩
  | succ n ih =>
    obtain ⟨hrange, hindex⟩ := ih
    rw [Function.iterate_succ_apply']
    refine ⟨advanceClock_inRange hrange, ?_⟩
    rw [clockIndex_advanceClock hrange, hindex, Nat.mod_add_mod, Nat.add_assoc]

/-- Settles O40: a legal value recurs exactly when its position does, and `n` calls move the position by `n` modulo the
length of the cycle. -/
theorem clockReturnsExactlyAfterItsFullCycle : Obligations.ClockReturnsExactlyAfterItsFullCycle := by
  intro m c h n
  obtain ⟨hrange, hindex⟩ := advanceClock_iterate h n
  calc (advanceClock m)^[n] c = c
      ↔ clockIndex m ((advanceClock m)^[n] c) = clockIndex m c :=
        ⟨congrArg (clockIndex m), clock_eq_of_clockIndex_eq hrange h⟩
    _ ↔ clockIndex m c + n ≡ clockIndex m c [MOD clockStates m] := by
        rw [hindex, Nat.ModEq, Nat.mod_eq_of_lt (clockIndex_lt h)]
    _ ↔ clockStates m ∣ n := Nat.add_modEq_left_iff

/-! ## `FORMAT` and `CLKRESET` -/

/-- The elements of `FORMAT_OF` are the quotients and remainders of the counters, none of which reaches 100 (41_clock.md
R124). -/
theorem formatOf_toNat (c : Clock) :
    (formatOf c).h10.toNat = c.hh.toNat / 10 ∧ (formatOf c).h1.toNat = c.hh.toNat % 10 ∧
      (formatOf c).m10.toNat = c.mm.toNat / 10 ∧ (formatOf c).m1.toNat = c.mm.toNat % 10 ∧
      (formatOf c).s10.toNat = c.ss.toNat / 10 ∧ (formatOf c).s1.toNat = c.ss.toNat % 10 :=
  have hhh := c.hh.isLt; have hmm := c.mm.isLt; have hss := c.ss.isLt
  ⟨tens_toNat (by omega), ones_toNat _, tens_toNat (by omega), ones_toNat _, tens_toNat (by omega), ones_toNat _⟩

/-- Settles O41: `FORMAT` writes `FORMAT_OF` of the Clock. -/
theorem formatWritesTheSixDigits : Obligations.FormatWritesTheSixDigits := fun s =>
  ⟨formatOf s.clock, rfl, formatOf_digitsOk s.clock, formatOf_toNat s.clock⟩

/-- Settles O42: `CLKRESET` as one update. -/
theorem clockResetWritesOnlyClockAndBuffer : Obligations.ClockResetWritesOnlyClockAndBuffer := clkReset_eq

end Sys2Proof.Machine
end

section
/-!
SUPPORT. The display scan (42_display_mux.md): one display step at a position with a pattern, the blank slot, and a
run of display steps as a walk along the scan positions.
-/
namespace Sys2Proof.Machine

open Sys2Proof.Safety

/-! ## One display step -/

/-- Only the six scan positions hold a digit (20_memory.md R61). -/
theorem lt_six_of_digits_get?_eq_some {d : Digits} {i : Nat} {x : Digit} (h : d.get? i = some x) : i < 6 := by
  by_contra hi
  rw [digits_get?_eq_none d (not_lt.mp hi)] at h
  cases h

/-- With at least the six positions to scan, a display step at a digit with a pattern lights it (42_display_mux.md R140,
R141). -/
theorem refreshWith_of_pattern {tbl : SegTable} {n : Nat} {s : State} {d : Digit} {p : SegPattern} (hn : 6 ≤ n)
    (hd : s.db.get? s.cur.toNat = some d) (hp : segLookup tbl d = some p) :
    refreshWith tbl n s = .ok (s.showDigit p (selectorOf s.cur.toNat) (nextSlot n s.cur.toNat)) := by
  have hcur : s.cur.toNat < n := (lt_six_of_digits_get?_eq_some hd).trans_le hn
  simp [refreshWith, hcur, hd, hp]

/-- Settles O20: the display step at a digit with a pattern, for the six positions of the machine. -/
theorem refreshLightsTheDigitAtTheCursor : Obligations.RefreshLightsTheDigitAtTheCursor :=
  ⟨fun _ _ _ _ hd hp => refreshWith_of_pattern le_rfl hd hp, fun _ => rfl⟩

/-- With seven slots the cursor wraps after slot 6 only (42_display_mux.md R141). -/
theorem nextSlot_seven {c : BitVec 3} (h : c.toNat < 6) : nextSlot 7 c.toNat = c + 1 := by
  apply BitVec.eq_of_toNat_eq
  simp only [nextSlot, Config.digitsPerTick, BitVec.ofNat_eq_ofNat, BitVec.toNat_ofNat, BitVec.toNat_add]
  omega

/-- Settles O21: slot 6 holds no digit; at a digit the step lights it and the cursor counts. -/
theorem blankSlotVariantOfRefresh : Obligations.BlankSlotVariantOfRefresh := by
  refine ⟨fun tbl s hcur => ?blank, fun tbl s d p hd hp => ?digit⟩
  case blank =>
    have hslot : s.cur.toNat = 6 := congrArg BitVec.toNat hcur
    simp only [refreshWith, hslot, digits_get?_eq_none s.db le_rfl]
    rfl
  case digit =>
    rw [refreshWith_of_pattern (by decide) hd hp, nextSlot_seven (lt_six_of_digits_get?_eq_some hd)]
    rfl

/-! ## A run of display steps -/

/-- At a scan position of a buffer of digits the display step succeeds, and moves the cursor on cyclically
(42_display_mux.md R140). -/
theorem refreshWith_six_of_digitsOk (tbl : SegTable) {s : State} (hcur : s.cur.toNat < 6) (hdb : DigitsOk s.db) :
    ∃ t, refreshWith tbl 6 s = .ok t ∧ t.cur.toNat = (s.cur.toNat + 1) % 6 ∧ t.db = s.db := by
  obtain ⟨d, hd⟩ := digits_get?_isSome (d := s.db) hcur
  obtain ⟨p, hp⟩ := segLookup_of_le tbl (digits_get?_le hdb hd)
  exact ⟨_, refreshWith_of_pattern le_rfl hd hp, nextSlot_toNat, rfl⟩

/-- From a scan position of a buffer of digits any number of display steps succeed, and each moves the cursor one place
along the cycle of the six positions (42_display_mux.md R142). -/
theorem refreshTimes_of_digitsOk (tbl : SegTable) (k : Nat) {s : State} (hcur : s.cur.toNat < 6)
    (hdb : DigitsOk s.db) :
    ∃ t, refreshTimes tbl k s = .ok t ∧ t.cur.toNat = (s.cur.toNat + k) % 6 ∧ t.db = s.db := by
  induction k generalizing s with
  | zero => exact ⟨s, rfl, (Nat.mod_eq_of_lt hcur).symm, rfl⟩
  | succ k ih =>
    obtain ⟨u, hu, hucur, hudb⟩ := refreshWith_six_of_digitsOk tbl hcur hdb
    obtain ⟨t, ht, htcur, htdb⟩ := ih (s := u) (by omega) (hudb ▸ hdb)
    have hrun : refreshTimes tbl (k + 1) s = refreshTimes tbl k u := by
      simp only [refreshTimes, Config.nSlots, hu]
    exact ⟨t, hrun.trans ht, by omega, htdb.trans hudb⟩

/-- The pair shown at a scan position of a buffer of digits carries the selector of that position (30_encoding.md
R90). -/
theorem shownAt_map_snd (tbl : SegTable) {db : Digits} (hdb : DigitsOk db) {p : Nat} (hp : p < 6) :
    (shownAt tbl db p).map Prod.snd = some (selectorOf p) := by
  obtain ⟨d, hd⟩ := digits_get?_isSome (d := db) hp
  obtain ⟨q, hq⟩ := segLookup_of_le tbl (digits_get?_le hdb hd)
  simp [shownAt, hd, hq]

/-- The selectors `k` display steps append to the display log, those of the `k` positions from the cursor on, cyclically
(42_display_mux.md R142). -/
theorem refreshTimes_selectors {tbl : SegTable} {k : Nat} {s t : State} (hdb : DigitsOk s.db)
    (h : refreshTimes tbl k s = .ok t) :
    t.dispLog.map Prod.snd =
      s.dispLog.map Prod.snd ++ (List.range k).map fun j => selectorOf ((s.cur.toNat + j) % 6) := by
  have hshown (j : Nat) : (shownAt tbl s.db ((s.cur.toNat + j) % 6)).map Prod.snd =
      some (selectorOf ((s.cur.toNat + j) % 6)) := shownAt_map_snd tbl hdb (Nat.mod_lt _ (by decide))
  apply List.map_injective_iff.mpr (Option.some_injective Selector)
  simpa [Function.comp_def, hshown] using congrArg (List.map (Option.map Prod.snd)) (refreshTimes_dispLog h)

/-- Settles O22: the run succeeds and walks along the positions, its selectors are those of the walk, and a multiple of
6 places leads back. -/
theorem scanIsPeriodicAndRoundRobin : Obligations.ScanIsPeriodicAndRoundRobin := by
  intro tbl k s hcur hdb
  obtain ⟨t, ht, htcur, htdb⟩ := refreshTimes_of_digitsOk tbl k (Nat.lt_succ_of_le hcur) hdb
  exact ⟨t, ht, htcur, fun hk => BitVec.eq_of_toNat_eq (by omega), htdb, refreshTimes_selectors hdb ht⟩

end Sys2Proof.Machine
end

section
/-!
SUPPORT. The time base (43_timebase.md): the overflow, the tick service with and without a completed second, a run of
ticks as an exact rate conversion, and the timer and the synchronisers of a clock cycle.
-/
namespace Sys2Proof.Machine

open Sys2Proof.Safety

/-- Settles O14: the schedule's entry is `OVF`, whose meaning is the one write. -/
theorem overflowSetsTheTimerFlag : Obligations.OverflowSetsTheTimerFlag := fun _ _ hin => step_ovf hin

/-! ## The tick service -/

/-- Where a digit with a pattern stands at the cursor, the tick service is `DIVSTEP` on the state with the flag cleared
and that digit lit (43_timebase.md R161, R164). -/
theorem exec_svcTick_of_divStep {s t : State} {d : Digit} {p : SegPattern} (hd : s.db.get? s.cur.toNat = some d)
    (hp : segTable d = some p)
    (h : divStep ((s.takeInterrupt .tick).showDigit p (selectorOf s.cur.toNat) (nextSlot 6 s.cur.toNat)) = .ok t) :
    exec .svcTick s = .next t :=
  exec_next_iff.mpr ⟨_, refreshWith_of_pattern (s := s.takeInterrupt .tick) le_rfl hd hp, h⟩

/-- In IDLE, SECOND advances a RUNNING Clock that is in range (40_chronometer_fsm.md R106, 41_clock.md R121). -/
theorem handle_second_running {s : State} (hds : s.ds = .idle) (hst : s.st = .running)
    (hclock : s.clock.InRange .corrected) :
    handle .second s = .ok (format (s.setClock (advanceCorrected s.clock))) :=
  handle_ok_iff.mpr ⟨hds, by rw [hst]; exact ⟨hclock, rfl⟩⟩

/-- In IDLE, SECOND changes nothing while STOPPED (40_chronometer_fsm.md R103). -/
theorem handle_second_stopped {s : State} (hds : s.ds = .idle) (hst : s.st = .stopped) : handle .second s = .ok s :=
  handle_ok_iff.mpr ⟨hds, by rw [hst]⟩

/-- Settles O24: below the threshold `DIVSTEP` adds one. -/
theorem tickServiceRefreshesAndCounts : Obligations.TickServiceRefreshesAndCounts :=
  fun _ _ _ hd hp hdiv => exec_svcTick_of_divStep hd hp (divStep_ok_iff.mpr (.inl ⟨hdiv, rfl⟩))

/-- Settles O25: at the threshold `DIVSTEP` hands SECOND to the RUNNING chronometer. -/
theorem tickServiceDeliversSecondWhileRunning : Obligations.TickServiceDeliversSecondWhileRunning :=
  fun _ _ _ hd hp hdiv hds hst hclock =>
    exec_svcTick_of_divStep hd hp (divStep_ok_iff.mpr (.inr ⟨hdiv, handle_second_running hds hst hclock⟩))

/-- Settles O26: at the threshold `DIVSTEP` hands SECOND to the STOPPED chronometer. -/
theorem tickServiceDeliversSecondWhileStopped : Obligations.TickServiceDeliversSecondWhileStopped :=
  fun _ _ _ hd hp hdiv hds hst =>
    exec_svcTick_of_divStep hd hp (divStep_ok_iff.mpr (.inr ⟨hdiv, handle_second_stopped hds hst⟩))

/-! ## A run of ticks -/

/-- The registers of `t` are what `k` ticks from the idle state `s` make of them (43_timebase.md R163, R167). -/
structure AfterTicks (k : Nat) (s t : State) : Prop where
  div : t.div.toNat = (s.div.toNat + k) % 150
  cur : t.cur.toNat = (s.cur.toNat + k) % 6
  clock : t.clock =
    if s.st = .running then (advanceClock .corrected)^[(s.div.toNat + k) / 150] s.clock else s.clock
  tIF : t.tIF = if k = 0 then s.tIF else false
  st : t.st = s.st
  ds : t.ds = .idle
  aIF : t.aIF = s.aIF
  bIF : t.bIF = s.bIF
  la : t.la = s.la
  lb : t.lb = s.lb
  txlog : t.txlog = s.txlog
  inputs : t.inputs = s.inputs

theorem AfterTicks.zero {s : State} (hinv : MachineInv s) (hds : s.ds = .idle) : AfterTicks 0 s s := by
  obtain ⟨⟨hdiv, hcur, -⟩, -⟩ := hinv
  have hsec : s.div.toNat / 150 = 0 := by omega
  constructor
  case div => omega
  case cur => omega
  case clock => simp [hsec]
  case ds => exact hds
  all_goals rfl

/-- Ticks add up: the completed seconds of both runs are those of the one run (43_timebase.md R167). -/
theorem AfterTicks.add {j k : Nat} {s u t : State} (hj : AfterTicks j s u) (hk : AfterTicks k u t) :
    AfterTicks (j + k) s t where
  div := by rw [hk.div, hj.div]; omega
  cur := by rw [hk.cur, hj.cur]; omega
  clock := by
    have hsec : (u.div.toNat + k) / 150 + (s.div.toNat + j) / 150 = (s.div.toNat + (j + k)) / 150 := by
      rw [hj.div]; omega
    rw [hk.clock, hj.st, hj.clock, ← hsec, Function.iterate_add_apply]
    split <;> rfl
  tIF := by
    rw [hk.tIF, hj.tIF, ← ite_and]
    exact if_congr (by omega) rfl rfl
  st := hk.st.trans hj.st
  ds := hk.ds
  aIF := hk.aIF.trans hj.aIF
  bIF := hk.bIF.trans hj.bIF
  la := hk.la.trans hj.la
  lb := hk.lb.trans hj.lb
  txlog := hk.txlog.trans hj.txlog
  inputs := hk.inputs.trans hj.inputs

/-- A tick service counts as one tick, if the divider, the cursor and the Clock do: nothing else of what `AfterTicks`
speaks of is written, save the flag it clears (10_state.md R45). -/
theorem AfterTicks.of_exec_svcTick {s t : State} (h : exec .svcTick s = .next t) (hds : s.ds = .idle)
    (hdiv : t.div.toNat = (s.div.toNat + 1) % 150) (hcur : t.cur.toNat = (s.cur.toNat + 1) % 6)
    (hclock : t.clock =
      if s.st = .running then (advanceClock .corrected)^[(s.div.toNat + 1) / 150] s.clock else s.clock) :
    AfterTicks 1 s t := by
  obtain ⟨p, q, k, n, c, d, rfl⟩ := exec_svcTick_next h
  exact ⟨hdiv, hcur, hclock, rfl, rfl, hds, rfl, rfl, rfl, rfl, rfl, rfl⟩

/-- In an idle state with the invariant the tick service succeeds and counts as one tick: the divider completes no
second, or one that a RUNNING Clock takes and a STOPPED one ignores (43_timebase.md R162, R163). -/
theorem exec_svcTick_afterTicks {s : State} (hinv : MachineInv s) (hds : s.ds = .idle) :
    ∃ t, exec .svcTick s = .next t ∧ AfterTicks 1 s t := by
  obtain ⟨⟨hdiv, hcur, hdb, -, -, hclock, -⟩, -⟩ := hinv
  obtain ⟨d, hd⟩ := digits_get?_isSome (d := s.db) (Nat.lt_succ_of_le hcur)
  obtain ⟨p, hp⟩ := segTable_of_le (digits_get?_le hdb hd)
  obtain hlt | hlast : s.div.toNat < 149 ∨ s.div.toNat = 149 := by omega
  · have h := tickServiceRefreshesAndCounts s d p hd hp hlt
    have hsec : (s.div.toNat + 1) / 150 = 0 := by omega
    exact ⟨_, h, .of_exec_svcTick h hds (by simp [BitVec.toNat_add]; omega) nextSlot_toNat (by simp [hsec])⟩
  · cases hst : s.st with
    | running =>
      have h := tickServiceDeliversSecondWhileRunning s d p hd hp hlast hds hst hclock
      exact ⟨_, h, .of_exec_svcTick h hds (by simp [hlast]) nextSlot_toNat (by simp [hlast, hst, advanceClock])⟩
    | stopped =>
      have h := tickServiceDeliversSecondWhileStopped s d p hd hp hlast hds hst
      exact ⟨_, h, .of_exec_svcTick h hds (by simp [hlast]) nextSlot_toNat (by simp [hst])⟩

/-- In IDLE with the timer's flag set the dispatcher serves the tick, whatever else is pending (30_encoding.md R82). -/
theorem decodeD_svcTick {s : State} (hds : s.ds = .idle) (hT : s.tIF = true) : decodeD (dword s) = .ok .svcTick := by
  have hw : ∀ w : DWord, w.getLsbD 0 = true → w.getLsbD 3 = false → decodeD w = .ok .svcTick := by decide
  obtain ⟨h0, -, -, h3⟩ := dword_getLsbD s
  exact hw _ (h0.trans hT) (by rw [h3, hds]; rfl)

/-- The script `TICK` runs in an idle state with the invariant, and leaves such a state (30_encoding.md R96). -/
theorem runScript_tickSteps {s : State} (ready : Bool) (hinv : MachineInv s) (hds : s.ds = .idle) :
    ∃ t, AfterTicks 1 s t ∧ MachineInv t ∧ ∀ l, runScript (tickSteps ready ++ l) s = runScript l t := by
  have hv : MachineInv ((ovf s).setReady ready) := hinv
  obtain ⟨t, ht, hafter⟩ := exec_svcTick_afterTicks hv hds
  have hi : Instr.svcTick = .txb ↔ ((ovf s).setReady ready).ds = .emit := by simp [hds]
  refine ⟨t, { hafter with }, exec_keeps_machineInv hv hi ht, fun l => ?_⟩
  have hsched : t.setInputs s.inputs = t := congrArg (State.setInputs · t) hafter.inputs.symm
  calc runScript (tickSteps ready ++ l) s
      = runScript (.disp ready :: l) (ovf s) := runScript_ovf _ s
    _ = runScript l (t.setInputs s.inputs) := runScript_disp (decodeD_svcTick (s := ovf s) hds rfl) ht
    _ = runScript l t := by rw [hsched]

/-- `k` times the script `TICK`, from an idle state with the invariant. -/
theorem runScript_timesSteps_tickSteps (k : Nat) (ready : Bool) {s : State} (hinv : MachineInv s) (hds : s.ds = .idle) :
    ∃ t, runScript (timesSteps k (tickSteps ready)) s = .next t ∧ AfterTicks k s t ∧ MachineInv t := by
  induction k generalizing s with
  | zero => exact ⟨s, runScript_nil s, .zero hinv hds, hinv⟩
  | succ k ih =>
    obtain ⟨u, hu, huinv, hrun⟩ := runScript_tickSteps ready hinv hds
    obtain ⟨t, ht, hkt, htinv⟩ := ih huinv hu.ds
    exact ⟨t, (hrun _).trans ht, Nat.add_comm 1 k ▸ hu.add hkt, htinv⟩

/-- Settles O27: by induction on the ticks; the buffer is the format of the Clock because every step keeps the
invariant. -/
theorem ticksAreConvertedToSecondsExactly : Obligations.TicksAreConvertedToSecondsExactly := by
  intro k ready s hinv hds
  obtain ⟨t, ht, h, -, hbuf, -⟩ := runScript_timesSteps_tickSteps k ready hinv hds
  exact ⟨t, ht, h.div, h.cur, h.clock, hbuf, fun hk => h.tIF.trans (if_neg hk.ne'), h.st, h.ds, h.aIF, h.bIF, h.la,
    h.lb, h.txlog, h.inputs⟩

/-! ## The clock cycle -/

/-- A clock cycle that answers a next state is an operation of the dispatcher, then the environment's part
(70_reset_and_hazards.md R280). -/
theorem step_clk_next {s t : State} {a b r : Bool} {rest : List Input} (hin : s.inputs = .clk a b r :: rest)
    (h : step s = .next t) :
    ∃ i u, exec i ((s.setInputs rest).setReady r) = .next u ∧ t = clockEdge a b u := by
  obtain ⟨i, hi⟩ := decodeD_total (dword s)
  rw [step_clk hin, dispStep_of_decode (i := i) (by simpa using hi)] at h
  cases hu : exec i ((s.setInputs rest).setReady r) with
  | next u => rw [hu] at h; cases h; exact ⟨i, u, hu, rfl⟩
  | fault e => rw [hu] at h; cases h
  | refused e => rw [hu] at h; cases h

/-- Settles O57: the dispatcher's part of the cycle leaves the timer's count and the synchronisers to the
environment's. -/
theorem timerAndSynchronisersPerCycle : Obligations.TimerAndSynchronisersPerCycle := by
  intro s t a b r rest hin h
  obtain ⟨i, u, hu, rfl⟩ := step_clk_next hin h
  obtain ⟨⟨-, -, himpl, -⟩, -⟩ := eachRegisterHasItsWriters i _ u hu
  simp only [State.setReady_impl, State.setInputs_impl] at himpl
  rw [clockEdge_eq]
  simp [Impl.tick, overflowDue, himpl]

end Sys2Proof.Machine
end

section
/-!
SUPPORT. The edge events (44_edge_events.md): one sample of a line, a run of samples, and the services of the two lines.
-/
namespace Sys2Proof.Machine

open Sys2Proof.Safety

/-! ## Samples of a line -/

/-- Settles O16, by induction on the samples: each moves the stored level on, and a fall it finds is merged into the
flag (R180, R186). -/
theorem samplesOfALineMergeIntoOneFlag : Obligations.SamplesOfALineMergeIntoOneFlag := by
  intro vs
  induction vs with
  | nil => intro s; simp [runScript_nil, anyFall]
  | cons v vs ih =>
    intro s
    constructor
    · rw [List.map_cons, runScript_sampleA, (ih _).1]
      simp only [sampleA, anyFall, List.getLastD_cons, Bool.or_assoc]
    · rw [List.map_cons, runScript_sampleB, (ih _).2]
      simp only [sampleB, anyFall, List.getLastD_cons, Bool.or_assoc]

/-- A flag that a falling edge sets and nothing else changes, as a case distinction on the edge (R180). -/
theorem or_fallingEdge (flag stored v : Bool) :
    (flag || fallingEdge stored v) = if stored = true ∧ v = false then true else flag := by
  simp only [← fallingEdge_eq_true]
  cases fallingEdge stored v <;> simp

/-- Settles O15: the meaning of a sample, its flag written as a case distinction. -/
theorem sampleSetsFlagExactlyOnFallingEdge : Obligations.SampleSetsFlagExactlyOnFallingEdge := by
  intro s v rest
  simp only [← or_fallingEdge]
  exact ⟨step_sampleA, step_sampleB⟩

/-! ## The edge services -/

/-- Settles O28: the two words, and TOGGLE on the state whose flag is cleared. -/
theorem edgeAServiceToggles : Obligations.EdgeAServiceToggles :=
  ⟨by decide, by decide, fun s hds => exec_next_iff.mpr (handle_toggle_idle (s := s.takeInterrupt .edgeA) hds)⟩

/-- In IDLE, LAP_RESET resets a STOPPED chronometer's Clock (40_chronometer_fsm.md R102). -/
theorem handle_lapReset_stopped {s : State} (hds : s.ds = .idle) (hst : s.st = .stopped) :
    handle .lapReset s = .ok (clkReset s) :=
  handle_ok_iff.mpr ⟨hds, by rw [hst]⟩

/-- In IDLE, LAP_RESET starts the lap line of a RUNNING chronometer (40_chronometer_fsm.md R105, 45_text_sink.md R201). -/
theorem handle_lapReset_running {s : State} (hds : s.ds = .idle) (htxi : s.txi = 0) (hst : s.st = .running) :
    handle .lapReset s = .ok s.enterEmit :=
  handle_ok_iff.mpr ⟨hds, by rw [hst]; exact ⟨htxi, rfl⟩⟩

/-- Settles O29: the word, and LAP_RESET on the state whose flag is cleared, by the state of the chronometer. -/
theorem edgeBServiceResetsOrStartsALine : Obligations.EdgeBServiceResetsOrStartsALine := by
  refine ⟨by decide, ?stopped, ?running⟩
  case stopped =>
    intro s hds hst
    exact exec_next_iff.mpr
      ((handle_lapReset_stopped (s := s.takeInterrupt .edgeB) hds hst).trans (congrArg Except.ok (clkReset_eq _)))
  case running =>
    intro s hds htxi hst
    exact exec_next_iff.mpr (handle_lapReset_running (s := s.takeInterrupt .edgeB) hds htxi hst)

end Sys2Proof.Machine
end

section
/-!
SUPPORT. The text sink (45_text_sink.md): the start of a lap line, its bytes one by one, the outputs to the sink, and a
whole line along any schedule of plain steps.
-/
namespace Sys2Proof.Machine

open Sys2Proof.Safety

/-! ## The start of a line and its bytes -/

/-- Settles O34: the operation is `LAPSTART`, whose precondition holds. -/
theorem lapResetWhileRunningStartsALine : Obligations.LapResetWhileRunningStartsALine :=
  fun _ hds htxi => exec_next_iff.mpr ⟨hds, htxi, rfl⟩

/-- Settles O43: `TXB` reads the line's byte at its index, and the index is not the last. -/
theorem txbSendsTheNextByte : Obligations.TxbSendsTheNextByte := fun _ b hready hlt hdb hb =>
  exec_next_iff.mpr (.inl ⟨hready, txByte_ok_iff.mpr ⟨b, (lapByte_ok_iff hdb).mpr hb, .inr ⟨hlt.ne, rfl⟩⟩⟩)

/-- Settles O44: at index 12 `TXB` reads the line feed, whatever the buffer holds. -/
theorem txbSendsTheLastByteAndReturns : Obligations.TxbSendsTheLastByteAndReturns := by
  intro s hready htxi
  have hlast : s.txi.toNat = 12 := congrArg BitVec.toNat htxi
  have hbyte : lapByte s.db s.txi.toNat = .ok 0x0A := by rw [hlast]; rfl
  exact exec_next_iff.mpr (.inl ⟨hready, txByte_ok_iff.mpr ⟨0x0A, hbyte, .inl ⟨hlast, rfl⟩⟩⟩)

/-- Settles O45: the row of `exec` for a sink that is not ready. -/
theorem txbWaitsForTheSink : Obligations.TxbWaitsForTheSink :=
  fun _ hready => exec_next_iff.mpr (.inr ⟨hready, rfl⟩)

/-- Settles O48: `tx_valid` asks for EMIT, and `tx_data` in EMIT is what `TXB` would read. -/
theorem textSinkOutputs : Obligations.TextSinkOutputs := by
  refine ⟨fun s => beq_iff_eq, fun s hds => ?idle, fun s b hds hdb hb => ?emit⟩
  case idle => simp only [txData, hds]
  case emit => simpa only [txData, hds] using (lapByte_ok_iff hdb).mpr hb

/-! ## A line along a schedule of plain steps -/

/-- `t` agrees with `s` on the registers that no step of a lap line writes (45_text_sink.md R206; 60_exceptions.md
R231). -/
structure LineFrame (s t : State) : Prop where
  clock : t.clock = s.clock
  db : t.db = s.db
  st : t.st = s.st
  div : t.div = s.div
  cur : t.cur = s.cur
  seg : t.seg = s.seg
  sel : t.sel = s.sel
  dispLog : t.dispLog = s.dispLog
  impl : t.impl = s.impl

theorem LineFrame.refl (s : State) : LineFrame s s := ⟨rfl, rfl, rfl, rfl, rfl, rfl, rfl, rfl, rfl⟩

/-- In `t`, `k` bytes of the line that started in `s` have been sent, and the line goes on (45_text_sink.md R205). -/
structure MidLine (k : Nat) (s t : State) : Prop extends LineFrame s t where
  txlog : t.txlog = s.txlog ++ (lapLine s.db).take k
  ds : t.ds = .emit
  txi : t.txi.toNat = k

theorem MidLine.zero {s : State} (hds : s.ds = .emit) (htxi : s.txi = 0) : MidLine 0 s s :=
  { LineFrame.refl s with txlog := (List.append_nil _).symm, ds := hds, txi := congrArg BitVec.toNat htxi }

/-- In EMIT the dispatcher performs `TXB`, whatever is pending (30_encoding.md R82; 60_exceptions.md R231). -/
theorem decodeD_txb {s : State} (hds : s.ds = .emit) : decodeD (dword s) = .ok .txb := by
  obtain ⟨i, hi⟩ := decodeD_total (dword s)
  rw [hi, (decodeD_txb_iff hi).mpr hds]

/-- A dispatcher step that does not find the sink ready leaves the line where it is (45_text_sink.md R204). -/
theorem MidLine.runScript_wait {k : Nat} {s v : State} (h : MidLine k s v) :
    ∃ w, MidLine k s w ∧ ∀ l, runScript (.disp false :: l) v = runScript l w :=
  ⟨v.setReady false, { h with }, fun _ => runScript_disp (decodeD_txb h.ds) (txbWaitsForTheSink (v.setReady false) rfl)⟩

/-- A dispatcher step that finds the sink ready before the last byte sends the next one (45_text_sink.md R203). -/
theorem MidLine.runScript_send {k : Nat} {s v : State} (h : MidLine k s v) (hdb : DigitsOk s.db) (hk : k < 12) :
    ∃ w, MidLine (k + 1) s w ∧ ∀ l, runScript (.disp true :: l) v = runScript l w := by
  obtain ⟨b, hb⟩ := lapByte_isOk hdb (show k < 13 by omega)
  have hbyte : (lapLine s.db)[k]? = some b := lapLine_getElem?_of_lapByte hb
  have hsend : exec .txb (v.setReady true) = .next ((v.setReady true).sendByte b).nextByte :=
    txbSendsTheNextByte (v.setReady true) b rfl (h.txi.trans_lt hk) (h.db ▸ hdb) (by simpa [h.db, h.txi] using hbyte)
  refine ⟨((v.setReady true).sendByte b).nextByte, { h with txlog := ?log, txi := ?index },
    fun _ => runScript_disp (decodeD_txb h.ds) hsend⟩
  case log => simp [h.txlog, List.take_add_one, hbyte]
  case index =>
    rw [← h.txi]
    exact BitVec.toNat_add_of_lt (by simp [h.txi]; omega)

/-- One plain step of a schedule sends a byte exactly if it is a dispatcher step that finds the sink ready; no other
agent writes the line or its frame (45_text_sink.md R204, R206). -/
theorem MidLine.runScript_cons {k : Nat} {s v : State} {x : Input} (h : MidLine k s v) (hdb : DigitsOk s.db)
    (hx : isPlainStep x = true) (hk : k + readySteps [x] ≤ 12) :
    ∃ w, MidLine (k + readySteps [x]) s w ∧ ∀ l, runScript (x :: l) v = runScript l w := by
  cases x with
  | ovf => exact ⟨ovf v, { h with }, fun l => runScript_ovf l v⟩
  | sampleA b => exact ⟨sampleA b v, { h with }, fun l => runScript_sampleA b l v⟩
  | sampleB b => exact ⟨sampleB b v, { h with }, fun l => runScript_sampleB b l v⟩
  | fg => exact ⟨v, h, fun l => runScript_fg l v⟩
  | disp ready =>
    cases ready with
    | false => exact h.runScript_wait
    | true => exact h.runScript_send hdb hk
  | rst | handle ev | clk a b r => cases hx

theorem readySteps_cons (x : Input) (l : List Input) : readySteps (x :: l) = readySteps [x] + readySteps l :=
  List.count_append (l₁ := [x])

/-- Along a schedule of plain steps each ready step sends one byte, as long as the last byte is not reached
(45_text_sink.md R205, R206). -/
theorem MidLine.runScript_plain {l : List Input} {k : Nat} {s v : State} (h : MidLine k s v) (hdb : DigitsOk s.db)
    (hplain : ∀ x ∈ l, isPlainStep x = true) (hk : k + readySteps l ≤ 12) :
    ∃ t, MidLine (k + readySteps l) s t ∧ ∀ l', runScript (l ++ l') v = runScript l' t := by
  induction l generalizing k v with
  | nil => exact ⟨v, h, fun _ => rfl⟩
  | cons x l ih =>
    obtain ⟨hx, hl⟩ := List.forall_mem_cons.mp hplain
    rw [readySteps_cons, ← Nat.add_assoc] at hk ⊢
    obtain ⟨w, hw, hfirst⟩ := h.runScript_cons hdb hx (by omega)
    obtain ⟨t, ht, hrest⟩ := ih hw hl hk
    exact ⟨t, ht, fun l' => (hfirst (l ++ l')).trans (hrest l')⟩

/-- After twelve bytes a ready step sends the line feed, which completes the line, and returns; the pending flags stay
(45_text_sink.md R203, R206; 60_exceptions.md R230). -/
theorem MidLine.runScript_last {s t : State} (h : MidLine 12 s t) :
    ∃ u, runScript [.disp true] t = .next u ∧ LineFrame s u ∧ u.txlog = s.txlog ++ lapLine s.db ∧ u.ds = .idle ∧
      u.txi = 0 ∧ u.tIF = t.tIF ∧ u.aIF = t.aIF ∧ u.bIF = t.bIF := by
  have hlast : exec .txb (t.setReady true) = .next ((t.setReady true).sendByte 0x0A).handlerReturn :=
    txbSendsTheLastByteAndReturns (t.setReady true) rfl (BitVec.eq_of_toNat_eq h.txi)
  refine ⟨((t.setReady true).sendByte 0x0A).handlerReturn, runScript_disp (decodeD_txb h.ds) hlast, { h with }, ?_,
    rfl, rfl, rfl, rfl, rfl⟩
  simp [h.txlog, lapLine]

/-- Settles O47: the schedule sends a byte per ready step, and after twelve of them one more completes the line. -/
theorem lapLineIsSentOnceAndUndisturbed : Obligations.LapLineIsSentOnceAndUndisturbed := by
  intro l s hdb hds htxi hplain hready
  obtain ⟨t, ht, hrun⟩ := (MidLine.zero hds htxi).runScript_plain hdb hplain (by omega)
  rw [Nat.zero_add] at ht
  refine ⟨t, ?_, ht.txlog, ht.ds, ht.txi, ht.clock, ht.db, ht.st, ht.div, ht.cur, ht.seg, ht.sel, ht.dispLog, ht.impl,
    fun htwelve => ?_⟩
  · simpa [runScript_nil] using hrun []
  · obtain ⟨u, hu, hframe, htxlog, huds, hutxi, hflags⟩ := (htwelve ▸ ht).runScript_last
    exact ⟨u, (hrun _).trans hu, htxlog, huds, hutxi, hframe.clock, hframe.db, hframe.st, hframe.div, hframe.cur,
      hframe.seg, hframe.sel, hframe.dispLog, hframe.impl, hflags⟩

end Sys2Proof.Machine
end

section
/-!
SUPPORT. The interrupts and the dispatcher (60_exceptions.md): the selection by fixed priority, what a service does to
the pending flags, three sources served one after the other, and the absence of faults (R240).
-/
namespace Sys2Proof.Machine

open Sys2Proof.Safety

/-! ## The selection -/

/-- The sixteen dispatcher words as the chain of R224 over their bits (30_encoding.md R81, R82). -/
theorem decodeD_eq_priority : ∀ w : DWord, decodeD w = .ok (
    if w.getLsbD 3 = true then .txb else if w.getLsbD 0 = true then .svcTick else if w.getLsbD 1 = true then .svcEdgeA
    else if w.getLsbD 2 = true then .svcEdgeB else .wait) := by decide

/-- The operation the dispatcher performs in a state, as the chain of R224. -/
theorem decodeD_dword (s : State) : decodeD (dword s) = .ok (
    if s.ds = .emit then .txb else if s.tIF = true then .svcTick else if s.aIF = true then .svcEdgeA
    else if s.bIF = true then .svcEdgeB else .wait) := by
  obtain ⟨h0, h1, h2, h3⟩ := dword_getLsbD s
  rw [decodeD_eq_priority, h0, h1, h2, h3]
  simp only [beq_iff_eq]

/-- The dispatcher performs the selection with the order TICK, EDGEA, EDGEB as an argument (R224, R226). -/
theorem decodeD_eq_selectByPrio (s : State) : decodeD (dword s) = .ok (selectByPrio [.tick, .edgeA, .edgeB] s) := by
  rw [decodeD_dword]
  simp only [selectByPrio, firstPending, List.find?, State.pending]
  cases s.ds
  case emit => rfl
  case idle => cases s.tIF <;> cases s.aIF <;> cases s.bIF <;> rfl

/-- Settles O6: the word's chain of priorities, and the search along the order. -/
theorem dispatcherServesByFixedPriority : Obligations.DispatcherServesByFixedPriority :=
  fun s => ⟨decodeD_dword s, decodeD_eq_selectByPrio s⟩

/-- Settles O7: the dispatcher word reads neither the schedule nor the sink. -/
theorem stepRunsTheDecodedOperation : Obligations.StepRunsTheDecodedOperation := by
  refine fun s i hi => ⟨fun r rest hin => ?disp, fun hin => ?nil, fun a b r rest hin => ?clk⟩
  case disp => exact (step_disp hin).trans (dispStep_of_decode hi)
  case nil => exact (step_nil hin).trans (dispStep_of_decode hi)
  case clk => exact (step_clk hin).trans (congrArg (afterDisp a b) (dispStep_of_decode hi))

/-- Settles O9: the word, and the row of `exec` for the operation. -/
theorem waitChangesNothing : Obligations.WaitChangesNothing := ⟨by decide, fun _ => exec_next_iff.mpr rfl⟩

/-- Settles O19: the foreground's step computes nothing. -/
theorem foregroundStepChangesNothing : Obligations.ForegroundStepChangesNothing := fun _ _ hin => step_fg hin

/-! ## The acknowledgment -/

theorem serviceOf_injective : Function.Injective serviceOf := by
  intro a b h
  cases a <;> cases b <;> cases h <;> rfl

/-- Only its service clears a source's flag, and no operation sets one (R222; 10_state.md R44, R45). -/
theorem exec_keeps_pending {i : Instr} {s t : State} (h : exec i s = .next t) {src : Source} (hi : i ≠ serviceOf src) :
    t.pending src = s.pending src := by
  obtain ⟨-, htick, hA, hB, -⟩ := eachRegisterHasItsWriters i s t h
  cases src
  case tick => exact (htick hi).1
  case edgeA => exact hA hi
  case edgeB => exact hB hi

/-- A service acknowledges its source (R222, R233). -/
theorem exec_serviceOf_clears {src : Source} {s t : State} (h : exec (serviceOf src) s = .next t) :
    t.pending src = false := by
  cases src
  case tick => obtain ⟨p, q, k, n, c, d, rfl⟩ := exec_svcTick_next h; rfl
  case edgeA => obtain ⟨x, rfl⟩ := handle_toggle_ok (exec_next_iff.mp h); rfl
  case edgeB => obtain rfl | rfl := handle_lapReset_ok (exec_next_iff.mp h) <;> rfl

/-- Settles O10: a service is no other source's service. -/
theorem serviceClearsItsFlagAndNoOther : Obligations.ServiceClearsItsFlagAndNoOther := fun _ _ _ h =>
  ⟨exec_serviceOf_clears h, fun _ hne => exec_keeps_pending h (serviceOf_injective.ne hne.symm)⟩

/-- An operation in which a flag falls is the service of its source (R222). -/
theorem eq_serviceOf_of_flag_falls {i : Instr} {s t : State} (h : exec i s = .next t) {src : Source}
    (hs : s.pending src = true) (ht : t.pending src = false) : i = serviceOf src := by
  by_contra hi
  have hkept := exec_keeps_pending h hi
  simp [hs, ht] at hkept

/-- No handle word decodes to a service (30_encoding.md R85). -/
theorem decodeH_ne_serviceOf (w : HWord) (src : Source) : decodeH w ≠ .ok (serviceOf src) := by
  have hw : ∀ w : HWord, decodeH w ≠ .ok .svcTick ∧ decodeH w ≠ .ok .svcEdgeA ∧ decodeH w ≠ .ok .svcEdgeB := by decide
  obtain ⟨hT, hA, hB⟩ := hw w
  cases src <;> assumption

@[simp] theorem pending_setInputs (src : Source) (l : List Input) (s : State) :
    (s.setInputs l).pending src = s.pending src := by cases src <;> rfl

/-- Settles O11: of the agents only the dispatcher, by the flag's service, and a reset clear a flag; the environment's
part of a cycle only sets flags. -/
theorem flagFallsOnlyByItsServiceOrReset : Obligations.FlagFallsOnlyByItsServiceOrReset := by
  intro src s t hstep hs ht
  obtain ⟨i, hi, hdisp⟩ | ⟨rest, -, rfl⟩ | ⟨v, rest, -, rfl⟩ | ⟨v, rest, -, rfl⟩ | ⟨rest, hin, -⟩ | ⟨rest, -, rfl⟩ |
    ⟨ev, rest, i, -, -, hi, h⟩ := step_next_cases hstep
  · have hserved {v u : State} (h : exec i v = .next u) (hv : v.pending src = true) (hu : u.pending src = false) :
        decodeD (dword s) = .ok (serviceOf src) := eq_serviceOf_of_flag_falls h hv hu ▸ hi
    obtain ⟨hin, h⟩ | ⟨r, rest, hin, h⟩ | ⟨a, b, r, rest, u, hin, h, rfl⟩ := hdisp
    · exact .inr ⟨hserved h hs ht, .inl hin⟩
    · exact .inr ⟨hserved h hs ht, .inr (.inl ⟨r, rest, hin⟩)⟩
    · rw [pending_clockEdge_exec h src a b r, Bool.or_eq_false_iff] at ht
      exact .inr ⟨hserved h hs ht.1, .inr (.inr ⟨a, b, r, rest, hin⟩)⟩
  · simp [pending_ovf, hs] at ht
  · simp [pending_sampleA, hs] at ht
  · simp [pending_sampleB, hs] at ht
  · exact .inl ⟨rest, hin⟩
  · simp [hs] at ht
  · exact absurd (eq_serviceOf_of_flag_falls h hs ht ▸ hi) (decodeH_ne_serviceOf _ src)

/-! ## Three pending sources -/

/-- A dispatcher entry at the head of a script, as no operation writes the schedule (10_state.md R45). -/
theorem runScript_disp_exec {r : Bool} {l : List Input} {i : Instr} {s t : State} (hd : decodeD (dword s) = .ok i)
    (h : exec i (s.setReady r) = .next t) : runScript (.disp r :: l) s = runScript l t := by
  obtain ⟨⟨-, -, -, hin, -⟩, -⟩ := eachRegisterHasItsWriters i _ t h
  have hsched : t.setInputs s.inputs = t := congrArg (State.setInputs · t) hin.symm
  rw [runScript_disp hd h, hsched]

/-- In IDLE with `TXI = 0` the service of line B succeeds: a RUNNING chronometer starts a lap line of its Clock, a
STOPPED one is reset (44_edge_events.md R183). -/
theorem exec_svcEdgeB_idle {s : State} (hds : s.ds = .idle) (htxi : s.txi = 0) : ∃ t, exec .svcEdgeB s = .next t ∧
    (s.st = .running → t.ds = .emit ∧ t.txi = 0 ∧ t.clock = s.clock) ∧
    (s.st = .stopped → t.ds = .idle ∧ t.clock = ⟨0, 0, 0⟩ ∧ t.db = ⟨0, 0, 0, 0, 0, 0⟩) := by
  obtain ⟨-, hstopped, hrunning⟩ := edgeBServiceResetsOrStartsALine
  cases hst : s.st
  case stopped => exact ⟨_, hstopped s hds hst, by simp, fun _ => ⟨hds, rfl, rfl⟩⟩
  case running => exact ⟨_, hrunning s hds htxi hst, fun _ => ⟨rfl, rfl, rfl⟩, by simp⟩

/-- In IDLE the service of line A clears its flag and toggles the chronometer (44_edge_events.md R182). -/
theorem exec_svcEdgeA_idle {s : State} (hds : s.ds = .idle) :
    exec .svcEdgeA s = .next ((s.takeInterrupt .edgeA).setSt (toggled s.st)) := edgeAServiceToggles.2.2 s hds

/-- Settles O13: the tick is one tick and leaves the chronometer alone, TOGGLE turns it, and LAP_RESET meets the turned
chronometer; LAP_RESET's service writes none of the registers the first two wrote, save Clock and buffer. -/
theorem threePendingSourcesAreServedInOrder : Obligations.ThreePendingSourcesAreServedInOrder := by
  intro s r1 r2 r3 hinv hds hT hA hB
  have ⟨⟨_, _, _, _, htxi, _⟩, _⟩ := hinv
  obtain ⟨u, hu, htick⟩ := exec_svcTick_afterTicks (s := s.setReady r1) hinv hds
  obtain ⟨-, -, -, -, -, -, -, hutxi⟩ := eachRegisterHasItsWriters .svcTick _ u hu
  let v := ((u.setReady r2).takeInterrupt .edgeA).setSt (toggled u.st)
  have hv : exec .svcEdgeA (u.setReady r2) = .next v := exec_svcEdgeA_idle (s := u.setReady r2) htick.ds
  obtain ⟨t, ht, hrunning, hstopped⟩ := exec_svcEdgeB_idle (s := v.setReady r3) htick.ds
    ((hutxi (by decide)).2.trans (htxi hds))
  obtain ⟨⟨-, -, -, hinputs, -⟩, htickRegs, haIF, -, -, -, hst, -⟩ := eachRegisterHasItsWriters .svcEdgeB _ t ht
  obtain ⟨htIF, hdiv, hcur, -⟩ := htickRegs (by decide)
  have hdecodeA : decodeD (dword u) = .ok .svcEdgeA := by
    simp [decodeD_dword, htick.ds, htick.tIF, htick.aIF, hA]
  have hdecodeB : decodeD (dword v) = .ok .svcEdgeB := by
    simp [decodeD_dword, v, htick.ds, htick.tIF, htick.bIF, hB]
  have hrun : runScript [.disp r1, .disp r2, .disp r3] s = .next t :=
    calc runScript [.disp r1, .disp r2, .disp r3] s
      _ = runScript [.disp r2, .disp r3] u := runScript_disp_exec (decodeD_svcTick hds hT) hu
      _ = runScript [.disp r3] v := runScript_disp_exec hdecodeA hv
      _ = .next t := runScript_disp_exec hdecodeB ht
  refine ⟨t, hrun, htIF.trans htick.tIF, haIF (by decide), exec_serviceOf_clears (src := .edgeB) ht,
    (hst (by decide)).trans (congrArg toggled htick.st), hinputs.trans htick.inputs, hdiv ▸ htick.div, hcur ▸ htick.cur,
    fun hs => ?stopped, fun hs => ?running⟩
  case stopped =>
    obtain ⟨htds, httxi, htclock⟩ := hrunning (congrArg toggled (htick.st.trans hs))
    exact ⟨htds, httxi, htclock.trans (htick.clock.trans (by simp [hs]))⟩
  case running => exact hstopped (congrArg toggled (htick.st.trans hs))

/-! ## No fault -/

/-- In IDLE no event faults under the invariant (40_chronometer_fsm.md R100, R108). -/
theorem handle_isOk {s : State} (ev : Event) (hinv : MachineInv s) (hds : s.ds = .idle) :
    ∃ t, handle ev s = .ok t := by
  obtain ⟨⟨-, -, -, -, htxi, hclock, -⟩, -⟩ := hinv
  cases ev
  case toggle => exact ⟨_, handle_toggle_idle hds⟩
  case lapReset =>
    cases hst : s.st
    case stopped => exact ⟨_, handle_lapReset_stopped hds hst⟩
    case running => exact ⟨_, handle_lapReset_running hds (htxi hds) hst⟩
  case second =>
    cases hst : s.st
    case stopped => exact ⟨_, handle_second_stopped hds hst⟩
    case running => exact ⟨_, handle_second_running hds hst hclock⟩

/-- `TXB` never faults under the invariant: the index is one of the line's, and the buffer holds digits (20_memory.md
R63, R66). -/
theorem exec_txb_isNext {s : State} (hinv : MachineInv s) : ∃ t, exec .txb s = .next t := by
  obtain ⟨⟨-, -, hdb, htxi, -⟩, -⟩ := hinv
  cases hready : s.txReady
  case false => exact ⟨s, txbWaitsForTheSink s hready⟩
  case true =>
    obtain hlast | hlt := htxi.eq_or_lt
    · exact ⟨_, txbSendsTheLastByteAndReturns s hready (BitVec.eq_of_toNat_eq hlast)⟩
    · obtain ⟨b, hb⟩ := lapByte_isOk hdb (Nat.lt_succ_of_le htxi)
      exact ⟨_, txbSendsTheNextByte s b hready hlt hdb (lapLine_getElem?_of_lapByte hb)⟩

/-- In IDLE the service of a source never faults under the invariant. -/
theorem exec_serviceOf_isNext (src : Source) {s : State} (hinv : MachineInv s) (hds : s.ds = .idle) :
    ∃ t, exec (serviceOf src) s = .next t := by
  cases src
  case tick => exact (exec_svcTick_afterTicks hinv hds).imp fun _ h => h.1
  case edgeA => exact (handle_isOk .toggle (machineInv_takeInterrupt hinv .edgeA) hds).imp fun _ => exec_next_iff.mpr
  case edgeB => exact (handle_isOk .lapReset (machineInv_takeInterrupt hinv .edgeB) hds).imp fun _ => exec_next_iff.mpr

/-- A step of the dispatcher never faults under the invariant (R240). -/
theorem dispStep_isNext {s : State} (hinv : MachineInv s) : ∃ t, dispStep s = .next t := by
  rw [dispStep_of_decode (decodeD_eq_selectByPrio s)]
  cases hds : s.ds
  case emit => simpa only [selectByPrio, hds] using exec_txb_isNext hinv
  case idle =>
    simp only [selectByPrio, hds]
    cases firstPending [.tick, .edgeA, .edgeB] s
    case none => exact ⟨s, waitChangesNothing.2 s⟩
    case some src => exact exec_serviceOf_isNext src hinv hds

/-- The event codes other than the reserved one are codes of events (30_encoding.md R87). -/
theorem exists_event_code {ev : EvCode} (h : ev ≠ 0b11) : ∃ e : Event, e.code = ev := by
  have hcodes : ∀ ev : EvCode, ev ≠ 0b11 →
      ev = Event.code .toggle ∨ ev = Event.code .lapReset ∨ ev = Event.code .second := by decide
  obtain h | h | h := hcodes ev h <;> exact ⟨_, h.symm⟩

/-- In IDLE a direct call with an event's code never faults under the invariant (30_encoding.md R86, R97). -/
theorem handleStep_isNext {s : State} {ev : EvCode} (hinv : MachineInv s) (hds : s.ds = .idle) (hev : ev ≠ 0b11) :
    ∃ t, handleStep ev s = .next t := by
  obtain ⟨e, rfl⟩ := exists_event_code hev
  obtain ⟨t, ht⟩ := handle_isOk e hinv hds
  exact ⟨t, (handleIsTheDecodedTransition e s).symm.trans (finish_next_iff.mpr ht)⟩

/-- Settles O53: by the schedule's next entry; the invariant does not read the model's own fields, which are all that a
step has moved before its operation. -/
theorem noStepFaultsUnderTheInvariant : Obligations.NoStepFaultsUnderTheInvariant := by
  intro s hinv hhandle
  cases hin : s.inputs with
  | nil => rw [step_nil hin]; exact dispStep_isNext (s := s.drawReady) hinv
  | cons x rest =>
    cases x with
    | ovf => exact ⟨_, step_ovf hin⟩
    | sampleA v => exact ⟨_, step_sampleA hin⟩
    | sampleB v => exact ⟨_, step_sampleB hin⟩
    | rst => exact ⟨_, step_rst hin⟩
    | fg => exact ⟨_, step_fg hin⟩
    | disp r => rw [step_disp hin]; exact dispStep_isNext (s := (s.setInputs rest).setReady r) hinv
    | handle ev =>
      obtain ⟨hds, hev⟩ := hhandle ev rest hin
      rw [step_handle hin]
      exact handleStep_isNext (s := s.setInputs rest) hinv hds hev
    | clk a b r =>
      obtain ⟨t, ht⟩ := dispStep_isNext (s := (s.setInputs rest).setReady r) hinv
      exact ⟨clockEdge a b t, by rw [step_clk hin, ht]; rfl⟩

end Sys2Proof.Machine
end

section
/-!
SUPPORT. Reset and the clocked realisation (70_reset_and_hazards.md): the whole next state of `RST` (R260), set wins over
clear within a clock cycle (R281), and a clock cycle as one legal schedule (R280).
-/
namespace Sys2Proof.Machine

/-- Settles O17: the schedule's entry is `RST`, whose meaning is the list of writes. -/
theorem resetStepZeroesEveryRegister : Obligations.ResetStepZeroesEveryRegister := fun _ _ hin => step_rst hin

/-! ## Set wins over clear -/

/-- A source that fires in a clock cycle is pending after it, as its flag is set after the dispatcher's operation
(70_reset_and_hazards.md R280, R281). -/
theorem pending_of_fires_clk {src : Source} {s t : State} {a b r : Bool} {rest : List Input}
    (hin : s.inputs = .clk a b r :: rest) (hstep : step s = .next t) (hfires : fires src (.clk a b r) s = true) :
    t.pending src = true := by
  obtain ⟨i, u, hu, rfl⟩ := step_clk_next hin hstep
  have hfires' : fires src (.clk a b r) ((s.setInputs rest).setReady r) = true :=
    (fires_setModelFields src _ rest r s.draws s).trans hfires
  rw [pending_clockEdge_exec hu src a b r, hfires', Bool.or_true]

/-- Settles O56: the three conditions are those under which a clock cycle fires the three sources. -/
theorem setWinsOverClearInOneCycle : Obligations.SetWinsOverClearInOneCycle := by
  intro s t a b r rest hin hstep
  refine ⟨fun hdue => ?tick, fun hla ha2 => ?edgeA, fun hlb hb2 => ?edgeB⟩
  case tick => exact pending_of_fires_clk (src := .tick) hin hstep (beq_iff_eq.mpr hdue)
  case edgeA => exact pending_of_fires_clk (src := .edgeA) hin hstep (fallingEdge_eq_true.mpr ⟨hla, ha2⟩)
  case edgeB => exact pending_of_fires_clk (src := .edgeB) hin hstep (fallingEdge_eq_true.mpr ⟨hlb, hb2⟩)

/-! ## A clock cycle as a schedule -/

/-- A script ends with the outcome of its leading dispatcher entry if that has no next state. -/
theorem runScript_disp_stops {r : Bool} {l : List Input} {i : Instr} {s : State} (hd : decodeD (dword s) = .ok i)
    (hstop : ∀ t, exec i (s.setReady r) ≠ .next t) : runScript (.disp r :: l) s = exec i (s.setReady r) := by
  have hstep : step (s.withScript (.disp r :: l)) = onNext (State.setInputs (l ++ s.inputs)) (exec i (s.setReady r)) :=
    (dispStep_of_decode (s := (s.setReady r).setInputs (l ++ s.inputs)) hd).trans (exec_setInputs i _ _)
  rw [runScript, List.length_cons, core_run_succ, hstep]
  cases h : exec i (s.setReady r) with
  | next t => exact absurd h (hstop t)
  | fault e => rfl
  | refused e => rfl

/-- The environment's steps of a cycle, run one by one, are its part of the clock edge, save the timer count and the
synchroniser stages (70_reset_and_hazards.md R280). -/
theorem runScript_cycleInputs (a b : Bool) (s : State) :
    runScript (cycleInputs s.impl) s = .next ((clockEdge a b s).setImpl s.impl) := by
  unfold cycleInputs clockEdge
  cases overflowDue s.impl with
  | true => exact (runScript_ovf _ s).trans ((runScript_sampleA _ _ _).trans (runScript_sampleB _ _ _))
  | false => exact (runScript_sampleA _ _ s).trans (runScript_sampleB _ _ _)

/-- Settles O55: by the outcome of the dispatcher's operation, which leaves the environment's steps of the cycle as they
are, because it does not write the timer's count and the synchronisers. -/
theorem clockCycleIsALegalSchedule : Obligations.ClockCycleIsALegalSchedule := by
  intro s a b r rest hin
  obtain ⟨i, hi⟩ := decodeD_total (dword s)
  obtain ⟨-, -, hcycle⟩ := stepRunsTheDecodedOperation s i hi
  have hclk : step s = afterDisp a b (exec i ((s.setInputs rest).setReady r)) := hcycle a b r rest hin
  have hstops (hne : ∀ u, exec i ((s.setInputs rest).setReady r) ≠ .next u) :
      runScript (.disp r :: cycleInputs s.impl) { s with inputs := rest } = exec i ((s.setInputs rest).setReady r) :=
    runScript_disp_stops (s := s.setInputs rest) hi hne
  cases hu : exec i ((s.setInputs rest).setReady r) with
  | next u =>
    obtain ⟨⟨-, -, himpl : u.impl = s.impl, -⟩, -⟩ := eachRegisterHasItsWriters i _ u hu
    have hrun : runScript (.disp r :: cycleInputs s.impl) { s with inputs := rest } =
        .next ((clockEdge a b u).setImpl u.impl) :=
      (runScript_disp_exec (s := s.setInputs rest) hi hu).trans (himpl ▸ runScript_cycleInputs a b u)
    rw [hclk, hu, hrun, ← himpl]
    rfl
  | fault e => rw [hclk, hstops (by simp [hu]), hu, afterDisp]
  | refused e => rw [hclk, hstops (by simp [hu]), hu, afterDisp]

end Sys2Proof.Machine
end

section
/-!
SUPPORT. The reference segment table and the selectors (30_encoding.md R89, R90).
-/
namespace Sys2Proof.Machine

open Sys2Proof.Safety

/-- Whatever the table, a value above 9 has no pattern (20_memory.md R62). -/
theorem segLookup_of_ge (tbl : SegTable) {d : Digit} (h : 10 ≤ d.toNat) : segLookup tbl d = none :=
  Vector.getElem?_eq_none h

/-- A table whose ten patterns are distinct tells the decimal digits apart (30_encoding.md R89). -/
theorem segInjective_of_nodup {tbl : SegTable} (h : tbl.toList.Nodup) : SegInjective tbl := by
  intro d e hd heq
  have hlen : d.toNat < tbl.toList.length := by rw [Vector.length_toList]; omega
  simp only [segLookup, ← Vector.getElem?_toList] at heq
  exact BitVec.eq_of_toNat_eq ((List.getElem?_inj hlen h).mp heq)

/-- A digit's pattern is one of the table's (30_encoding.md R88). -/
theorem mem_of_segLookup {tbl : SegTable} {d : Digit} {p : SegPattern} (h : segLookup tbl d = some p) :
    p ∈ tbl.toList :=
  Vector.mem_toList_iff.mpr (Vector.mem_of_getElem? h)

/-- Settles O23: table and selectors are read off; the ten patterns are distinct, and blank is not among them. -/
theorem segmentTableAndSelectorCodes : Obligations.SegmentTableAndSelectorCodes := by
  have hnodup : segReference.toList.Nodup := by decide
  have hblank : segBlank ∉ segReference.toList := by decide
  exact ⟨by decide, fun _ => segLookup_of_ge segReference, segInjective_of_nodup hnodup,
    fun _ h => hblank (mem_of_segLookup h), by decide⟩

end Sys2Proof.Machine
end

section
/-!
SUPPORT. Where an operation faults (93_implementation_defined.md U11 to U16): for each shared operation the value it
rejects, and the operations that meet it.
-/
namespace Sys2Proof.Machine

/-! ## The tick service -/

/-- A display step rejects a cursor that is no scan position (93 U11). -/
theorem refreshWith_cursorOutOfRange {tbl : SegTable} {n : Nat} {s : State} (h : n ≤ s.cur.toNat) :
    refreshWith tbl n s = .error .cursorOutOfRange :=
  if_neg (not_lt.mpr h)

/-- A display step rejects a buffer element above 9 at the cursor (93 U12). -/
theorem refreshWith_digitOutOfRange {tbl : SegTable} {n : Nat} {s : State} {d : Digit} (hn : 6 ≤ n)
    (hd : s.db.get? s.cur.toNat = some d) (h : 10 ≤ d.toNat) : refreshWith tbl n s = .error .digitOutOfRange := by
  have hcur : s.cur.toNat < n := (lt_six_of_digits_get?_eq_some hd).trans_le hn
  simp [refreshWith, hcur, hd, segLookup_of_ge tbl h]

/-- `DIVSTEP` rejects a count at or above the threshold (93 U14). -/
theorem divStep_dividerOutOfRange {s : State} (h : 150 ≤ s.div.toNat) : divStep s = .error .dividerOutOfRange :=
  if_neg (not_lt.mpr h)

/-- The tick service faults if its display step does. -/
theorem exec_svcTick_of_refresh_error {s : State} {e : Fault} (h : refresh (s.takeInterrupt .tick) = .error e) :
    exec .svcTick s = .fault e := by
  have hservice : tickService (s.takeInterrupt .tick) = .error e := by simp only [tickService, h]
  exact congrArg finish hservice

/-- The tick service faults if `DIVSTEP` does after the display step. -/
theorem exec_svcTick_of_divStep_error {s u : State} {e : Fault} (hu : refresh (s.takeInterrupt .tick) = .ok u)
    (h : divStep u = .error e) : exec .svcTick s = .fault e := by
  have hservice : tickService (s.takeInterrupt .tick) = .error e := by simp only [tickService, hu, h]
  exact congrArg finish hservice

/-! ## The lap line and the chronometer machine -/

/-- The lap line rejects a buffer element above 9 at the byte read (93 U12). -/
theorem lapByte_digitOutOfRange {db : Digits} {k : Nat} {d : Digit} (h5 : 5 ≤ k) (h10 : k ≤ 10)
    (hd : db.get? (k - 5) = some d) (h : 10 ≤ d.toNat) : lapByte db k = .error .digitOutOfRange := by
  simp (disch := omega) only [lapByte, if_neg, hd]

/-- With the sink ready, `TXB` faults if its read of the lap line does. -/
theorem exec_txb_of_lapByte_error {s : State} {e : Fault} (hready : s.txReady = true)
    (h : lapByte s.db s.txi.toNat = .error e) : exec .txb s = .fault e := by
  have hbyte : txByte s = .error e := by simp only [txByte, h]
  exact (if_pos hready).trans (congrArg finish hbyte)

/-- `LAPSTART` rejects a byte index that is not 0 (93 U13). -/
theorem lapStart_byteIndexOutOfRange {s : State} (hds : s.ds = .idle) (h : s.txi ≠ 0) :
    lapStart s = .error .byteIndexOutOfRange := by
  simp only [lapStart, hds, if_neg h]

/-- `LAPSTART` rejects EMIT (93 U16). -/
theorem lapStart_emit {s : State} (hds : s.ds = .emit) : lapStart s = .error .handleWhileEmitting := by
  simp only [lapStart, hds]

/-- The edge services reject EMIT, as the `HANDLE` they call does (93 U16). -/
theorem edgeService_emit {s : State} (src : Source) (hds : s.ds = .emit) :
    edgeService src s = .error .handleWhileEmitting :=
  handle_emit (eventOf src) ((State.takeInterrupt_ds src s).trans hds)

/-- `ADVANCE` rejects a Clock out of its mode's range (93 U15). -/
theorem advance_clockOutOfRange {m : RolloverMode} {s : State} (h : ¬ s.clock.InRange m) :
    advance m s = .error .clockOutOfRange :=
  if_neg h

/-- Settles O54: for each clause the shared operation that rejects the value, and the operation that calls it. -/
theorem unreachableValuesFaultByName : Obligations.UnreachableValuesFaultByName := by
  refine ⟨fun s hcur => ?cursor, fun s d hd h => ?tickDigit, fun s d hd h9 hdiv => ?divider, fun s hready h => ?index,
    fun s d hready h5 h10 hd h => ?lineDigit, fun s h => ?clock, fun s hds h => ?lapStart, fun s hds => ?emit⟩
  case cursor => exact exec_svcTick_of_refresh_error (refreshWith_cursorOutOfRange (s := s.takeInterrupt .tick) hcur)
  case tickDigit =>
    exact exec_svcTick_of_refresh_error (refreshWith_digitOutOfRange (s := s.takeInterrupt .tick) le_rfl hd h)
  case divider =>
    obtain ⟨p, hp⟩ := segTable_of_le h9
    exact exec_svcTick_of_divStep_error (refreshWith_of_pattern (s := s.takeInterrupt .tick) le_rfl hd hp)
      (divStep_dividerOutOfRange hdiv)
  case index => exact exec_txb_of_lapByte_error hready (lapByte_of_ge s.db h)
  case lineDigit => exact exec_txb_of_lapByte_error hready (lapByte_digitOutOfRange h5 h10 hd h)
  case clock => exact congrArg finish (advance_clockOutOfRange h)
  case lapStart => exact congrArg finish (lapStart_byteIndexOutOfRange hds h)
  case emit =>
    exact ⟨congrArg finish (edgeService_emit .edgeA hds), congrArg finish (edgeService_emit .edgeB hds),
      congrArg finish (lapStart_emit hds)⟩

end Sys2Proof.Machine
end
